-- ==== Sys2Proof/Word.lean ====
section
/-! DEFINITION. The word types of the hardware's formats (30_encoding.md R90) and the triple of a time of day. -/
namespace Sys2Proof

/-- DSYM4, a digit symbol code, the address of DIGIT_ROM (R91). -/
abbrev DSym := BitVec 4
/-- GSYM8, a glyph symbol code, the address of GLYPH_ROM (R92). -/
abbrev GSym := BitVec 8
/-- MASK7, the active-high set of lit segments, bit 0 = a .. bit 6 = g (R93). -/
abbrev Mask := BitVec 7
/-- SEGN7, the value of the SEG_N port, the complement of a mask (R93). -/
abbrev SegN := BitVec 7
/-- PHASE6, the codes of the PHASE and RET registers (R96). -/
abbrev Phase := BitVec 6
/-- OP8, the label of one operation (R98). -/
abbrev OpCode := BitVec 8
/-- VAL14, the operand of RENDER_NUMBER (R99). -/
abbrev Val14 := BitVec 14

/-- The contents of GLYPH_ROM: the addresses that hold a non-zero mask, each with its mask (R72; log 16). -/
abbrev GlyphTable := List (Nat × Mask)

/-- Seconds, minutes, hours as unbounded naturals, the operands and results of the Clock Engine's functions (R9, R170). -/
structure Time where
  s : Nat
  m : Nat
  h : Nat
  deriving DecidableEq, Repr

end Sys2Proof
end

