-- ==== Sys2Proof/Syntax.lean ====
section
/-! DEFINITION. The operations of the hardware, one constructor per row of spec/opcode_table.json and one for the glyph symbols that
have no row, and the words of a trace. -/
namespace Sys2Proof

/-- One row of the operation table each: the 36 steps of MAIN, the three handlers, the seven events of ENV, the nine pure
functions (30_encoding.md R96, R103), the 16 digit symbols (R122) and the 31 reference glyph symbols (R124);
and ENC_GLYPH of any other character code (R104). -/
inductive Instr where
  /-- SLP_EVAL, OP8 0x00 (R281). -/
  | slpEval
  /-- SHW_DB0, OP8 0x01 (R261). -/
  | shwDb0
  /-- SHW_DB1, OP8 0x02 (R262). -/
  | shwDb1
  /-- SHW_DB2, OP8 0x03 (R263). -/
  | shwDb2
  /-- SHW_BEGIN, OP8 0x04 (R210). -/
  | shwBegin
  /-- SHW_HEAD, OP8 0x05 (R211). -/
  | shwHead
  /-- SHW_DARK, OP8 0x06 (R212). -/
  | shwDark
  /-- SHW_DARKW, OP8 0x07 (R213). -/
  | shwDarkw
  /-- SHW_POLL, OP8 0x08 (R214). -/
  | shwPoll
  /-- SHW_EXPIRE, OP8 0x09 (R215). -/
  | shwExpire
  /-- EXIT_OFF, OP8 0x0A (R216). -/
  | exitOff
  /-- SET_BEGIN, OP8 0x10 (R220). -/
  | setBegin
  /-- SET_HEAD, OP8 0x11 (R221). -/
  | setHead
  /-- SET_BLINK, OP8 0x12 (R222). -/
  | setBlink
  /-- SET_BDARK, OP8 0x13 (R223). -/
  | setBdark
  /-- SET_BDARKW, OP8 0x14 (R224). -/
  | setBdarkw
  /-- SET_POLL, OP8 0x15 (R225). -/
  | setPoll
  /-- SET_LOCK, OP8 0x16 (R231). -/
  | setLock
  /-- SET_MUT, OP8 0x17 (R232). -/
  | setMut
  /-- SET_UNLOCK, OP8 0x18 (R233). -/
  | setUnlock
  /-- SET_ACC, OP8 0x19 (R234). -/
  | setAcc
  /-- LED_DB0, OP8 0x20 (R264). -/
  | ledDb0
  /-- LED_DB1, OP8 0x21 (R265). -/
  | ledDb1
  /-- LED_DB2, OP8 0x22 (R266). -/
  | ledDb2
  /-- LED_BEGIN, OP8 0x23 (R235). -/
  | ledBegin
  /-- LED_LOOP, OP8 0x24 (R236). -/
  | ledLoop
  /-- LED_EXIT, OP8 0x25 (R237). -/
  | ledExit
  /-- RN_SNAP, OP8 0x30 (R141). -/
  | rnSnap
  /-- RG_LOAD, OP8 0x31 (R150). -/
  | rgLoad
  /-- DD_ON, OP8 0x32 (R143). -/
  | ddOn
  /-- DD_HOLD, OP8 0x33 (R144). -/
  | ddHold
  /-- DD_OFF, OP8 0x34 (R145). -/
  | ddOff
  /-- BOOT_HEAD, OP8 0x38 (R355). -/
  | bootHead
  /-- BOOT_FRAME, OP8 0x39 (R356). -/
  | bootFrame
  /-- BOOT_DARK, OP8 0x3A (R357). -/
  | bootDark
  /-- BOOT_DARKW, OP8 0x3B (R358). -/
  | bootDarkw
  /-- IRQ_TICK, OP8 0x40 (R310). -/
  | irqTick
  /-- IRQ_BTN, OP8 0x41 (R311). -/
  | irqBtn
  /-- IRQ_AUX, OP8 0x42 (R312). -/
  | irqAux
  /-- ADVANCE, OP8 0x80 (R321), dt microseconds. -/
  | advance (dt : Nat)
  /-- BTN_PRESS, OP8 0x81 (R305). -/
  | btnPress
  /-- BTN_RELEASE, OP8 0x82 (R306). -/
  | btnRelease
  /-- AUX_PRESS, OP8 0x83 (R307). -/
  | auxPress
  /-- AUX_RELEASE, OP8 0x84 (R308). -/
  | auxRelease
  /-- RESET, OP8 0x85 (R350). -/
  | reset
  /-- TICK_RAISE, OP8 0x86 (R309). -/
  | tickRaise
  /-- ENC_DIGIT, OP8 0xC0 (R121). -/
  | encDigit
  /-- ENC_GLYPH, OP8 0xC1 (R123). -/
  | encGlyph
  /-- DRIVE_SEG, OP8 0xC2 (R125). -/
  | driveSeg
  /-- BCD4, OP8 0xC3 (R101). -/
  | bcd4
  /-- NORMALIZE, OP8 0xC4 (R170). -/
  | normalize
  /-- TIMEVALUE, OP8 0xC5 (R100). -/
  | timevalue
  /-- TICK_FN, OP8 0xC6 (R175). -/
  | tickFn
  /-- INC_FN, OP8 0xC7 (R176). -/
  | incFn
  /-- JUMP_FN, OP8 0xC8 (R177). -/
  | jumpFn
  /-- DIGIT_0, DSYM4 0x0 (R122). -/
  | digit0
  /-- DIGIT_1, DSYM4 0x1 (R122). -/
  | digit1
  /-- DIGIT_2, DSYM4 0x2 (R122). -/
  | digit2
  /-- DIGIT_3, DSYM4 0x3 (R122). -/
  | digit3
  /-- DIGIT_4, DSYM4 0x4 (R122). -/
  | digit4
  /-- DIGIT_5, DSYM4 0x5 (R122). -/
  | digit5
  /-- DIGIT_6, DSYM4 0x6 (R122). -/
  | digit6
  /-- DIGIT_7, DSYM4 0x7 (R122). -/
  | digit7
  /-- DIGIT_8, DSYM4 0x8 (R122). -/
  | digit8
  /-- DIGIT_9, DSYM4 0x9 (R122). -/
  | digit9
  /-- BLANK, DSYM4 0xA (R122). -/
  | blank
  /-- UNDEF_11, DSYM4 0xB (R122). -/
  | undef11
  /-- UNDEF_12, DSYM4 0xC (R122). -/
  | undef12
  /-- UNDEF_13, DSYM4 0xD (R122). -/
  | undef13
  /-- UNDEF_14, DSYM4 0xE (R122). -/
  | undef14
  /-- UNDEF_15, DSYM4 0xF (R122). -/
  | undef15
  /-- GLYPH_SPACE, GSYM8 0x20 (R124). -/
  | glyphSpace
  /-- GLYPH_MINUS, GSYM8 0x2D (R124). -/
  | glyphMinus
  /-- GLYPH_0, GSYM8 0x30 (R124). -/
  | glyph0
  /-- GLYPH_1, GSYM8 0x31 (R124). -/
  | glyph1
  /-- GLYPH_2, GSYM8 0x32 (R124). -/
  | glyph2
  /-- GLYPH_3, GSYM8 0x33 (R124). -/
  | glyph3
  /-- GLYPH_4, GSYM8 0x34 (R124). -/
  | glyph4
  /-- GLYPH_5, GSYM8 0x35 (R124). -/
  | glyph5
  /-- GLYPH_6, GSYM8 0x36 (R124). -/
  | glyph6
  /-- GLYPH_7, GSYM8 0x37 (R124). -/
  | glyph7
  /-- GLYPH_8, GSYM8 0x38 (R124). -/
  | glyph8
  /-- GLYPH_9, GSYM8 0x39 (R124). -/
  | glyph9
  /-- GLYPH_A, GSYM8 0x41 (R124). -/
  | glyphUpA
  /-- GLYPH_C, GSYM8 0x43 (R124). -/
  | glyphUpC
  /-- GLYPH_E, GSYM8 0x45 (R124). -/
  | glyphUpE
  /-- GLYPH_F, GSYM8 0x46 (R124). -/
  | glyphUpF
  /-- GLYPH_H, GSYM8 0x48 (R124). -/
  | glyphUpH
  /-- GLYPH_L, GSYM8 0x4C (R124). -/
  | glyphUpL
  /-- GLYPH_P, GSYM8 0x50 (R124). -/
  | glyphUpP
  /-- GLYPH_S, GSYM8 0x53 (R124). -/
  | glyphUpS
  /-- GLYPH_U, GSYM8 0x55 (R124). -/
  | glyphUpU
  /-- GLYPH_b, GSYM8 0x62 (R124). -/
  | glyphLowB
  /-- GLYPH_c, GSYM8 0x63 (R124). -/
  | glyphLowC
  /-- GLYPH_d, GSYM8 0x64 (R124). -/
  | glyphLowD
  /-- GLYPH_h, GSYM8 0x68 (R124). -/
  | glyphLowH
  /-- GLYPH_n, GSYM8 0x6E (R124). -/
  | glyphLowN
  /-- GLYPH_o, GSYM8 0x6F (R124). -/
  | glyphLowO
  /-- GLYPH_r, GSYM8 0x72 (R124). -/
  | glyphLowR
  /-- GLYPH_t, GSYM8 0x74 (R124). -/
  | glyphLowT
  /-- GLYPH_u, GSYM8 0x75 (R124). -/
  | glyphLowU
  /-- GLYPH_y, GSYM8 0x79 (R124). -/
  | glyphLowY
  /-- ENC_GLYPH offered with its symbol written out: a character code no row of the table stands for, a legal input all the same
  (R104, R123; log 9). -/
  | encGlyphOf (c : GSym)
  deriving DecidableEq, Repr

/-- One word of an encoded trace (R107): an OP8 code; the operand dt of ADVANCE, a natural number with no width (R98); a symbol
code in its own format (R91, R92). A word carries its format because the codes of the three formats overlap (log 9). -/
inductive TraceWord where
  /-- An operation code. -/
  | op8 (c : OpCode)
  /-- The operand of ADVANCE, in microseconds. -/
  | dt (n : Nat)
  /-- A digit symbol offered to the Segment Encoder. -/
  | dsym4 (d : DSym)
  /-- A glyph symbol offered to the Segment Encoder. -/
  | gsym8 (c : GSym)
  deriving DecidableEq, Repr

/-- The four input changes an input script is made of (R107, R305 to R308). -/
inductive InputEvent where
  | btnPress
  | btnRelease
  | auxPress
  | auxRelease
  deriving DecidableEq, Repr

/-- The operation an input change is (R305 to R308). -/
def InputEvent.instr : InputEvent → Instr
  | .btnPress => .btnPress
  | .btnRelease => .btnRelease
  | .auxPress => .auxPress
  | .auxRelease => .auxRelease

end Sys2Proof
end

