-- ==== Sys2Proof/WellFormed.lean ====
section
/-! DEFINITION. Which operations are well formed: the operand of ADVANCE and the symbol of ENC_GLYPH are checked
(30_encoding.md R98, R104; 60_exceptions.md R321). -/
namespace Sys2Proof

/-- The longest time any legal configuration lets one ADVANCE pass: 255 seconds, in microseconds (R41, R321). -/
def maxAdvance : Nat := 255 * 1000000

/-- dt is positive (R98) and no longer than the longest legal tick period (R321). -/
def wfAdvance (dt : Nat) : Bool := decide (1 ≤ dt) && decide (dt ≤ maxAdvance)

/-- The character codes that have a row of the table (R124). -/
def glyphRowCodes : List GSym :=
  [0x20, 0x2D, 0x30, 0x31, 0x32, 0x33, 0x34, 0x35, 0x36, 0x37, 0x38, 0x39, 0x41, 0x43, 0x45, 0x46, 0x48, 0x4C, 0x50, 0x53, 0x55, 0x62,
   0x63, 0x64, 0x68, 0x6E, 0x6F, 0x72, 0x74, 0x75, 0x79]

/-- The code has no row of its own, so that each glyph symbol is written in one way only (log 9). -/
def wfGlyphOf (c : GSym) : Bool := !glyphRowCodes.contains c

/-- An operation is well formed when its operand is; only ADVANCE and ENC_GLYPH with its symbol have one (R98, R123). -/
def Instr.wf : Instr → Bool
  | .advance dt => wfAdvance dt
  | .slpEval => true
  | .shwDb0 => true
  | .shwDb1 => true
  | .shwDb2 => true
  | .shwBegin => true
  | .shwHead => true
  | .shwDark => true
  | .shwDarkw => true
  | .shwPoll => true
  | .shwExpire => true
  | .exitOff => true
  | .setBegin => true
  | .setHead => true
  | .setBlink => true
  | .setBdark => true
  | .setBdarkw => true
  | .setPoll => true
  | .setLock => true
  | .setMut => true
  | .setUnlock => true
  | .setAcc => true
  | .ledDb0 => true
  | .ledDb1 => true
  | .ledDb2 => true
  | .ledBegin => true
  | .ledLoop => true
  | .ledExit => true
  | .rnSnap => true
  | .rgLoad => true
  | .ddOn => true
  | .ddHold => true
  | .ddOff => true
  | .bootHead => true
  | .bootFrame => true
  | .bootDark => true
  | .bootDarkw => true
  | .irqTick => true
  | .irqBtn => true
  | .irqAux => true
  | .btnPress => true
  | .btnRelease => true
  | .auxPress => true
  | .auxRelease => true
  | .reset => true
  | .tickRaise => true
  | .encDigit => true
  | .encGlyph => true
  | .driveSeg => true
  | .bcd4 => true
  | .normalize => true
  | .timevalue => true
  | .tickFn => true
  | .incFn => true
  | .jumpFn => true
  | .digit0 => true
  | .digit1 => true
  | .digit2 => true
  | .digit3 => true
  | .digit4 => true
  | .digit5 => true
  | .digit6 => true
  | .digit7 => true
  | .digit8 => true
  | .digit9 => true
  | .blank => true
  | .undef11 => true
  | .undef12 => true
  | .undef13 => true
  | .undef14 => true
  | .undef15 => true
  | .glyphSpace => true
  | .glyphMinus => true
  | .glyph0 => true
  | .glyph1 => true
  | .glyph2 => true
  | .glyph3 => true
  | .glyph4 => true
  | .glyph5 => true
  | .glyph6 => true
  | .glyph7 => true
  | .glyph8 => true
  | .glyph9 => true
  | .glyphUpA => true
  | .glyphUpC => true
  | .glyphUpE => true
  | .glyphUpF => true
  | .glyphUpH => true
  | .glyphUpL => true
  | .glyphUpP => true
  | .glyphUpS => true
  | .glyphUpU => true
  | .glyphLowB => true
  | .glyphLowC => true
  | .glyphLowD => true
  | .glyphLowH => true
  | .glyphLowN => true
  | .glyphLowO => true
  | .glyphLowR => true
  | .glyphLowT => true
  | .glyphLowU => true
  | .glyphLowY => true
  | .encGlyphOf c => wfGlyphOf c

end Sys2Proof
end

