-- ==== Sys2Proof/Decode.lean ====
section
/-! DEFINITION. The decoder of trace words, total and rejecting by name, and the encoder beside it (30_encoding.md R96, R98, R103,
R105, R107; 40_segment_encoder.md R122, R124). -/
namespace Sys2Proof

/-- Why a list of trace words encodes no operation at its head. -/
inductive DecodeErr where
  /-- There is no word. -/
  | noWord
  /-- The OP8 code is reserved: it labels no operation (R105, U5). -/
  | reservedOp (c : OpCode)
  /-- ADVANCE is not followed by its operand (R98). -/
  | missingOperand
  /-- An operand stands where an operation is due (R98). -/
  | strayOperand (n : Nat)
  deriving DecidableEq, Repr

/-- The code of ADVANCE, the one operation with an operand (R98). -/
def advanceCode : OpCode := 0x80

/-- The operation of an OP8 code, for the 54 codes without an operand (R96, R103). -/
def decodeOp (c : OpCode) : Option Instr :=
  match c.toNat with
  | 0x00 => some .slpEval
  | 0x01 => some .shwDb0
  | 0x02 => some .shwDb1
  | 0x03 => some .shwDb2
  | 0x04 => some .shwBegin
  | 0x05 => some .shwHead
  | 0x06 => some .shwDark
  | 0x07 => some .shwDarkw
  | 0x08 => some .shwPoll
  | 0x09 => some .shwExpire
  | 0x0A => some .exitOff
  | 0x10 => some .setBegin
  | 0x11 => some .setHead
  | 0x12 => some .setBlink
  | 0x13 => some .setBdark
  | 0x14 => some .setBdarkw
  | 0x15 => some .setPoll
  | 0x16 => some .setLock
  | 0x17 => some .setMut
  | 0x18 => some .setUnlock
  | 0x19 => some .setAcc
  | 0x20 => some .ledDb0
  | 0x21 => some .ledDb1
  | 0x22 => some .ledDb2
  | 0x23 => some .ledBegin
  | 0x24 => some .ledLoop
  | 0x25 => some .ledExit
  | 0x30 => some .rnSnap
  | 0x31 => some .rgLoad
  | 0x32 => some .ddOn
  | 0x33 => some .ddHold
  | 0x34 => some .ddOff
  | 0x38 => some .bootHead
  | 0x39 => some .bootFrame
  | 0x3A => some .bootDark
  | 0x3B => some .bootDarkw
  | 0x40 => some .irqTick
  | 0x41 => some .irqBtn
  | 0x42 => some .irqAux
  | 0x81 => some .btnPress
  | 0x82 => some .btnRelease
  | 0x83 => some .auxPress
  | 0x84 => some .auxRelease
  | 0x85 => some .reset
  | 0x86 => some .tickRaise
  | 0xC0 => some .encDigit
  | 0xC1 => some .encGlyph
  | 0xC2 => some .driveSeg
  | 0xC3 => some .bcd4
  | 0xC4 => some .normalize
  | 0xC5 => some .timevalue
  | 0xC6 => some .tickFn
  | 0xC7 => some .incFn
  | 0xC8 => some .jumpFn
  | _ => none

/-- The operation of a digit symbol: all sixteen codes have one (R122). -/
def decodeDSym (d : DSym) : Instr :=
  match d.toNat with
  | 0x0 => .digit0
  | 0x1 => .digit1
  | 0x2 => .digit2
  | 0x3 => .digit3
  | 0x4 => .digit4
  | 0x5 => .digit5
  | 0x6 => .digit6
  | 0x7 => .digit7
  | 0x8 => .digit8
  | 0x9 => .digit9
  | 0xA => .blank
  | 0xB => .undef11
  | 0xC => .undef12
  | 0xD => .undef13
  | 0xE => .undef14
  | _ => .undef15

/-- The operation of a glyph symbol, for the codes the reference table lists (R124). -/
def decodeGSym (c : GSym) : Option Instr :=
  match c.toNat with
  | 0x20 => some .glyphSpace
  | 0x2D => some .glyphMinus
  | 0x30 => some .glyph0
  | 0x31 => some .glyph1
  | 0x32 => some .glyph2
  | 0x33 => some .glyph3
  | 0x34 => some .glyph4
  | 0x35 => some .glyph5
  | 0x36 => some .glyph6
  | 0x37 => some .glyph7
  | 0x38 => some .glyph8
  | 0x39 => some .glyph9
  | 0x41 => some .glyphUpA
  | 0x43 => some .glyphUpC
  | 0x45 => some .glyphUpE
  | 0x46 => some .glyphUpF
  | 0x48 => some .glyphUpH
  | 0x4C => some .glyphUpL
  | 0x50 => some .glyphUpP
  | 0x53 => some .glyphUpS
  | 0x55 => some .glyphUpU
  | 0x62 => some .glyphLowB
  | 0x63 => some .glyphLowC
  | 0x64 => some .glyphLowD
  | 0x68 => some .glyphLowH
  | 0x6E => some .glyphLowN
  | 0x6F => some .glyphLowO
  | 0x72 => some .glyphLowR
  | 0x74 => some .glyphLowT
  | 0x75 => some .glyphLowU
  | 0x79 => some .glyphLowY
  | _ => none

/-- The operation of a glyph symbol, any of the 256 codes: its row, else ENC_GLYPH of the code (R104, R123). -/
def decodeGlyph (c : GSym) : Instr :=
  match decodeGSym c with
  | some i => i
  | none => .encGlyphOf c

/-- Reads one operation from the head of an encoded trace and gives it with the words after it. -/
def decode : List TraceWord → Except DecodeErr (Instr × List TraceWord)
  | [] => .error .noWord
  | .dt n :: _ => .error (.strayOperand n)
  | .dsym4 d :: rest => .ok (decodeDSym d, rest)
  | .gsym8 c :: rest => .ok (decodeGlyph c, rest)
  | .op8 c :: rest =>
    if c = advanceCode then
      match rest with
      | .dt n :: rest' => .ok (.advance n, rest')
      | _ => .error .missingOperand
    else
      match decodeOp c with
      | some i => .ok (i, rest)
      | none => .error (.reservedOp c)

/-- The words of an operation (R96, R98, R103, R107). -/
def encode : Instr → List TraceWord
  | .slpEval => [.op8 0x00]
  | .shwDb0 => [.op8 0x01]
  | .shwDb1 => [.op8 0x02]
  | .shwDb2 => [.op8 0x03]
  | .shwBegin => [.op8 0x04]
  | .shwHead => [.op8 0x05]
  | .shwDark => [.op8 0x06]
  | .shwDarkw => [.op8 0x07]
  | .shwPoll => [.op8 0x08]
  | .shwExpire => [.op8 0x09]
  | .exitOff => [.op8 0x0A]
  | .setBegin => [.op8 0x10]
  | .setHead => [.op8 0x11]
  | .setBlink => [.op8 0x12]
  | .setBdark => [.op8 0x13]
  | .setBdarkw => [.op8 0x14]
  | .setPoll => [.op8 0x15]
  | .setLock => [.op8 0x16]
  | .setMut => [.op8 0x17]
  | .setUnlock => [.op8 0x18]
  | .setAcc => [.op8 0x19]
  | .ledDb0 => [.op8 0x20]
  | .ledDb1 => [.op8 0x21]
  | .ledDb2 => [.op8 0x22]
  | .ledBegin => [.op8 0x23]
  | .ledLoop => [.op8 0x24]
  | .ledExit => [.op8 0x25]
  | .rnSnap => [.op8 0x30]
  | .rgLoad => [.op8 0x31]
  | .ddOn => [.op8 0x32]
  | .ddHold => [.op8 0x33]
  | .ddOff => [.op8 0x34]
  | .bootHead => [.op8 0x38]
  | .bootFrame => [.op8 0x39]
  | .bootDark => [.op8 0x3A]
  | .bootDarkw => [.op8 0x3B]
  | .irqTick => [.op8 0x40]
  | .irqBtn => [.op8 0x41]
  | .irqAux => [.op8 0x42]
  | .advance dt => [.op8 0x80, .dt dt]
  | .btnPress => [.op8 0x81]
  | .btnRelease => [.op8 0x82]
  | .auxPress => [.op8 0x83]
  | .auxRelease => [.op8 0x84]
  | .reset => [.op8 0x85]
  | .tickRaise => [.op8 0x86]
  | .encDigit => [.op8 0xC0]
  | .encGlyph => [.op8 0xC1]
  | .driveSeg => [.op8 0xC2]
  | .bcd4 => [.op8 0xC3]
  | .normalize => [.op8 0xC4]
  | .timevalue => [.op8 0xC5]
  | .tickFn => [.op8 0xC6]
  | .incFn => [.op8 0xC7]
  | .jumpFn => [.op8 0xC8]
  | .digit0 => [.dsym4 0x0]
  | .digit1 => [.dsym4 0x1]
  | .digit2 => [.dsym4 0x2]
  | .digit3 => [.dsym4 0x3]
  | .digit4 => [.dsym4 0x4]
  | .digit5 => [.dsym4 0x5]
  | .digit6 => [.dsym4 0x6]
  | .digit7 => [.dsym4 0x7]
  | .digit8 => [.dsym4 0x8]
  | .digit9 => [.dsym4 0x9]
  | .blank => [.dsym4 0xA]
  | .undef11 => [.dsym4 0xB]
  | .undef12 => [.dsym4 0xC]
  | .undef13 => [.dsym4 0xD]
  | .undef14 => [.dsym4 0xE]
  | .undef15 => [.dsym4 0xF]
  | .glyphSpace => [.gsym8 0x20]
  | .glyphMinus => [.gsym8 0x2D]
  | .glyph0 => [.gsym8 0x30]
  | .glyph1 => [.gsym8 0x31]
  | .glyph2 => [.gsym8 0x32]
  | .glyph3 => [.gsym8 0x33]
  | .glyph4 => [.gsym8 0x34]
  | .glyph5 => [.gsym8 0x35]
  | .glyph6 => [.gsym8 0x36]
  | .glyph7 => [.gsym8 0x37]
  | .glyph8 => [.gsym8 0x38]
  | .glyph9 => [.gsym8 0x39]
  | .glyphUpA => [.gsym8 0x41]
  | .glyphUpC => [.gsym8 0x43]
  | .glyphUpE => [.gsym8 0x45]
  | .glyphUpF => [.gsym8 0x46]
  | .glyphUpH => [.gsym8 0x48]
  | .glyphUpL => [.gsym8 0x4C]
  | .glyphUpP => [.gsym8 0x50]
  | .glyphUpS => [.gsym8 0x53]
  | .glyphUpU => [.gsym8 0x55]
  | .glyphLowB => [.gsym8 0x62]
  | .glyphLowC => [.gsym8 0x63]
  | .glyphLowD => [.gsym8 0x64]
  | .glyphLowH => [.gsym8 0x68]
  | .glyphLowN => [.gsym8 0x6E]
  | .glyphLowO => [.gsym8 0x6F]
  | .glyphLowR => [.gsym8 0x72]
  | .glyphLowT => [.gsym8 0x74]
  | .glyphLowU => [.gsym8 0x75]
  | .glyphLowY => [.gsym8 0x79]
  | .encGlyphOf c => [.gsym8 c]

/-- A word of the table laid out as trace words. A word of less than a byte is a digit symbol and one of more than a byte is a
glyph symbol. A byte is an OP8 code where OP8 defines it, else the digit or glyph symbol it numbers, else a reserved OP8 code: the
table's word alone does not say its format (log 9). The operand of ADVANCE is what stands above the code. -/
def layoutWord (nbits w : Nat) : List TraceWord :=
  let c : BitVec 8 := BitVec.ofNat 8 w
  if nbits < 8 then [.dsym4 (BitVec.ofNat 4 w)]
  else if 8 < nbits ∧ (decodeGSym c).isSome then [.gsym8 c]
  else if c = advanceCode then [.op8 c, .dt (w / 256)]
  else if (decodeOp c).isSome then [.op8 c]
  else if w < 16 then [.dsym4 (BitVec.ofNat 4 w)]
  else if (decodeGSym c).isSome then [.gsym8 c]
  else [.op8 c]

/-- The operation the decoder reads from a word of the table (log 9). -/
def decodeTableWord (nbits w : Nat) : Option Instr :=
  match decode (layoutWord nbits w) with
  | .ok (i, _) => some i
  | .error _ => none

end Sys2Proof
end

