-- ==== Sys2Proof/Machine/Codes.lean ====
section
/-! DEFINITION. The codes of PHASE6 and MODE2 and the resting levels of the display lines (30_encoding.md R93 to R96). -/
namespace Sys2Proof.Machine

/-- PHASE6 code of slpEval (R281). -/
abbrev phSlpEval : Phase := 0x00
/-- PHASE6 code of shwDb0 (R261). -/
abbrev phShwDb0 : Phase := 0x01
/-- PHASE6 code of shwDb1 (R262). -/
abbrev phShwDb1 : Phase := 0x02
/-- PHASE6 code of shwDb2 (R263). -/
abbrev phShwDb2 : Phase := 0x03
/-- PHASE6 code of shwBegin (R210). -/
abbrev phShwBegin : Phase := 0x04
/-- PHASE6 code of shwHead (R211). -/
abbrev phShwHead : Phase := 0x05
/-- PHASE6 code of shwDark (R212). -/
abbrev phShwDark : Phase := 0x06
/-- PHASE6 code of shwDarkw (R213). -/
abbrev phShwDarkw : Phase := 0x07
/-- PHASE6 code of shwPoll (R214). -/
abbrev phShwPoll : Phase := 0x08
/-- PHASE6 code of shwExpire (R215). -/
abbrev phShwExpire : Phase := 0x09
/-- PHASE6 code of exitOff (R216). -/
abbrev phExitOff : Phase := 0x0A
/-- PHASE6 code of setBegin (R220). -/
abbrev phSetBegin : Phase := 0x10
/-- PHASE6 code of setHead (R221). -/
abbrev phSetHead : Phase := 0x11
/-- PHASE6 code of setBlink (R222). -/
abbrev phSetBlink : Phase := 0x12
/-- PHASE6 code of setBdark (R223). -/
abbrev phSetBdark : Phase := 0x13
/-- PHASE6 code of setBdarkw (R224). -/
abbrev phSetBdarkw : Phase := 0x14
/-- PHASE6 code of setPoll (R225). -/
abbrev phSetPoll : Phase := 0x15
/-- PHASE6 code of setLock (R231). -/
abbrev phSetLock : Phase := 0x16
/-- PHASE6 code of setMut (R232). -/
abbrev phSetMut : Phase := 0x17
/-- PHASE6 code of setUnlock (R233). -/
abbrev phSetUnlock : Phase := 0x18
/-- PHASE6 code of setAcc (R234). -/
abbrev phSetAcc : Phase := 0x19
/-- PHASE6 code of ledDb0 (R264). -/
abbrev phLedDb0 : Phase := 0x20
/-- PHASE6 code of ledDb1 (R265). -/
abbrev phLedDb1 : Phase := 0x21
/-- PHASE6 code of ledDb2 (R266). -/
abbrev phLedDb2 : Phase := 0x22
/-- PHASE6 code of ledBegin (R235). -/
abbrev phLedBegin : Phase := 0x23
/-- PHASE6 code of ledLoop (R236). -/
abbrev phLedLoop : Phase := 0x24
/-- PHASE6 code of ledExit (R237). -/
abbrev phLedExit : Phase := 0x25
/-- PHASE6 code of rnSnap (R141). -/
abbrev phRnSnap : Phase := 0x30
/-- PHASE6 code of rgLoad (R150). -/
abbrev phRgLoad : Phase := 0x31
/-- PHASE6 code of ddOn (R143). -/
abbrev phDdOn : Phase := 0x32
/-- PHASE6 code of ddHold (R144). -/
abbrev phDdHold : Phase := 0x33
/-- PHASE6 code of ddOff (R145). -/
abbrev phDdOff : Phase := 0x34
/-- PHASE6 code of bootHead (R355). -/
abbrev phBootHead : Phase := 0x38
/-- PHASE6 code of bootFrame (R356). -/
abbrev phBootFrame : Phase := 0x39
/-- PHASE6 code of bootDark (R357). -/
abbrev phBootDark : Phase := 0x3A
/-- PHASE6 code of bootDarkw (R358). -/
abbrev phBootDarkw : Phase := 0x3B

/-- MODE2 code of Sleeping (R95). -/
abbrev modeSleeping : BitVec 2 := 0
/-- MODE2 code of ShowingTime (R95). -/
abbrev modeShowing : BitVec 2 := 1
/-- MODE2 code of SettingTime (R95). -/
abbrev modeSetting : BitVec 2 := 2
/-- MODE2 code of LedToggle (R95). -/
abbrev modeLed : BitVec 2 := 3

/-- SEG_N with nothing lit (R54). -/
abbrev segRest : SegN := 0x7F
/-- DIG with no position selected (R55). -/
abbrev digRest : BitVec 4 := 0

end Sys2Proof.Machine
end

