-- ==== Sys2Proof/Config.lean ====
section
/-! DEFINITION. The configuration CFG, a record of read-only straps (10_state.md R40 to R46), and the values no rule states. -/
namespace Sys2Proof

/-- CFG (R40): what the implementation fixes. Every field has the width of R41 to R46; which values are legal is `Cfg.wf`. -/
structure Cfg where
  /-- CFG.MODE12: true is Twelve, false TwentyFour (R41). -/
  mode12 : Bool
  /-- CFG.TICK_PERIOD_S: seconds between ticks and seconds added per tick (R41). -/
  tickPeriodS : BitVec 8
  /-- CFG.DEFAULT_HR (R41). -/
  defaultHr : BitVec 5
  /-- CFG.DEFAULT_MIN (R41). -/
  defaultMin : BitVec 6
  /-- CFG.DEFAULT_SEC (R41). -/
  defaultSec : BitVec 6
  /-- CFG.DWELL_US: microseconds a position stays lit (R42). -/
  dwellUs : BitVec 16
  /-- CFG.DARK_US: microseconds of dark interval after each sweep (R42). -/
  darkUs : BitVec 16
  /-- CFG.GLYPH_TABLE: the contents of GLYPH_ROM (R42, R72). -/
  glyphTable : GlyphTable
  /-- CFG.SHOW_MS: the display duration (R43). -/
  showMs : BitVec 16
  /-- CFG.SETTLE_MS: the settle delay of the button debounce (R43). -/
  settleMs : BitVec 16
  /-- CFG.ALWAYS_ON: the flag that disables the sleep scheduler (R43). -/
  alwaysOn : Bool
  /-- CFG.SET_CYCLE_MS: the amount IDLE gains per control cycle (R44). -/
  setCycleMs : BitVec 16
  /-- CFG.SET_IDLE_MS: the value of IDLE at which SettingTime exits (R44). -/
  setIdleMs : BitVec 16
  /-- CFG.ACCEL_CYCLES: the consecutive pressed cycles at which the jump starts (R44). -/
  accelCycles : BitVec 4
  /-- CFG.BLINK_REPS: the sweeps of one blink half (R44). -/
  blinkReps : BitVec 4
  /-- CFG.LED_WINDOW_MS: the window of LedToggle (R45). -/
  ledWindowMs : BitVec 16
  /-- CFG.AUX_SETTLE_MS: the settle delay of the AUX debounce (R45). -/
  auxSettleMs : BitVec 16
  /-- CFG.BOOT_SCRIPT: the frames shown at boot, four glyph codes each (R46). -/
  bootScript : List (BitVec 32)
  /-- CFG.MSG_MS: how long each frame is shown (R46). -/
  msgMs : BitVec 16
  deriving DecidableEq, Repr

/-- What M[POS] reads as for a POS outside 1..4, which no rule states and no run reaches (R25, R143; log 11). -/
opaque Config.maskOutside : BitVec 3 → Mask

/-- What onehot4(POS) is for a POS outside 1..4, which no rule states and no run reaches (R8, R25, R143; log 11). -/
opaque Config.digOutside : BitVec 3 → BitVec 4

/-- What CFG.BOOT_SCRIPT[BI] reads as past the end of the script, which no rule states and no run reaches (R355, R356; log 11). -/
opaque Config.frameOutside : BitVec 8 → BitVec 32

end Sys2Proof
end

