-- ==== Sys2Proof/Machine/Rom.lean ====
section
/-! DEFINITION. The two read-only memories of the Segment Encoder and what a configuration must satisfy (20_memory.md R70 to R73;
40_segment_encoder.md R122, R124; 10_state.md R41 to R47). -/
namespace Sys2Proof

/-- What an address of GLYPH_ROM that the table does not list holds: all segments off (R72). -/
abbrev glyphDefault : Mask := 0

/-- The canonical form of a glyph table: addresses strictly rising and within 8 bits, no entry equal to what an unlisted address
holds (log 16). -/
def Memory.wf : GlyphTable → Bool
  | [] => true
  | [(a, w)] => decide (a < 256) && decide (w ≠ glyphDefault)
  | (a, w) :: (b, v) :: rest => decide (a < b) && decide (w ≠ glyphDefault) && Memory.wf ((b, v) :: rest)

/-- The word an address of GLYPH_ROM holds (R72): total, no side effect, cannot fail (R73). -/
def Memory.read : GlyphTable → Nat → Mask
  | [], _ => glyphDefault
  | (b, v) :: rest, a => if a = b then v else Memory.read rest a

/-- The table with one more address defined, R106's one way to extend it; the canonical form is kept, so defining an address as
all segments off removes its entry. It builds configurations; no operation of the hardware writes a ROM (R83). -/
def Memory.define : GlyphTable → Nat → Mask → GlyphTable
  | [], a, w => if w = glyphDefault then [] else [(a, w)]
  | (b, v) :: rest, a, w =>
    if a < b then (if w = glyphDefault then (b, v) :: rest else (a, w) :: (b, v) :: rest)
    else if a = b then (if w = glyphDefault then rest else (a, w) :: rest)
    else (b, v) :: Memory.define rest a w

/-- The contents of DIGIT_ROM: the ten numerals, BLANK, and five undefined symbols that show nothing (R122). -/
def digitRom : List Mask :=
  [0x3F, 0x06, 0x5B, 0x4F, 0x66, 0x6D, 0x7D, 0x07, 0x7F, 0x6F, 0x00, 0x00, 0x00, 0x00, 0x00, 0x00]

/-- RomRead(DIGIT_ROM, d) (R71). -/
def romDigit (d : DSym) : Mask := digitRom.getD d.toNat 0

/-- RomRead(GLYPH_ROM, c) (R72). -/
def romGlyph (table : GlyphTable) (c : GSym) : Mask := Memory.read table c.toNat

/-- The reference contents of GLYPH_ROM (R124), without the addresses that hold 0x00. -/
def referenceGlyphs : GlyphTable :=
  [(0x2D, 0x40), (0x30, 0x3F), (0x31, 0x06), (0x32, 0x5B), (0x33, 0x4F), (0x34, 0x66), (0x35, 0x6D), (0x36, 0x7D),
   (0x37, 0x07), (0x38, 0x7F), (0x39, 0x6F), (0x41, 0x77), (0x43, 0x39), (0x45, 0x79), (0x46, 0x71), (0x48, 0x76),
   (0x4C, 0x38), (0x50, 0x73), (0x53, 0x6D), (0x55, 0x3E), (0x62, 0x7C), (0x63, 0x58), (0x64, 0x5E), (0x68, 0x74),
   (0x6E, 0x54), (0x6F, 0x5C), (0x72, 0x50), (0x74, 0x78), (0x75, 0x1C), (0x79, 0x6E)]

/-- The TimeOfDay invariant (R23), which the default time of a legal configuration satisfies (R41). -/
def timeOfDayOk (mode12 : Bool) (t : Time) : Bool :=
  decide (t.s < 60) && decide (t.m < 60) &&
    (if mode12 then decide (1 ≤ t.h) && decide (t.h ≤ 12) else decide (t.h ≤ 23))

/-- The time of day RESET loads (R182). -/
def Cfg.defaultTime (c : Cfg) : Time := ⟨c.defaultSec.toNat, c.defaultMin.toNat, c.defaultHr.toNat⟩

/-- A configuration is well formed iff every field is in its legal column (R47); the canonical form of the glyph table is the
model's (log 16). -/
def Cfg.wf (c : Cfg) : Bool :=
  timeOfDayOk c.mode12 c.defaultTime &&
    c.tickPeriodS != 0 && c.dwellUs != 0 && c.setCycleMs != 0 && c.accelCycles != 0 &&
    Memory.wf c.glyphTable && Memory.read c.glyphTable 0x20 == 0 &&
    decide (c.bootScript.length ≤ 255)

/-- The default straps (R41 to R46). The OPEN fields mode12, darkUs, glyphTable, alwaysOn and msgMs have no default in the spec:
these are the model's values (log 5). -/
def Cfg.default : Cfg where
  mode12 := true
  tickPeriodS := 8
  defaultHr := 12
  defaultMin := 0
  defaultSec := 0
  dwellUs := 2000
  darkUs := 1000
  glyphTable := referenceGlyphs
  showMs := 2000
  settleMs := 100
  alwaysOn := false
  setCycleMs := 200
  setIdleMs := 2000
  accelCycles := 10
  blinkReps := 10
  ledWindowMs := 2000
  auxSettleMs := 100
  bootScript := []
  msgMs := 0

/-- The tick period in microseconds, the PUS of R321. -/
def Cfg.periodUs (c : Cfg) : Nat := c.tickPeriodS.toNat * 1000000

end Sys2Proof
end

