-- ==== Sys2Proof/Machine/State.lean ====
section
/-! DEFINITION. The architectural state (10_state.md R20 to R56), the reasons a step can stop, and reset (70_reset_and_hazards.md
R350, R351). -/
namespace Sys2Proof.Machine

/-- The MODEL's own (log 8): the operand and result wires of the nine pure functions, so that a function offered as a step has
operands and a result to look at. No operation of MAIN, IRQ or ENV but RESET reads or writes them. -/
structure FnPort where
  /-- Operand of ENC_DIGIT (R121). -/
  dsym : DSym
  /-- Operand of ENC_GLYPH (R123). -/
  gsym : GSym
  /-- Result of ENC_DIGIT and ENC_GLYPH, operand of DRIVE_SEG (R121, R123, R125). -/
  mask : Mask
  /-- Result of DRIVE_SEG (R125). -/
  segn : SegN
  /-- Operand of BCD4, result of TIMEVALUE (R99 to R101). -/
  value : Val14
  /-- Result of BCD4, thousands first (R101). -/
  d1 : DSym
  /-- Result of BCD4, hundreds (R101). -/
  d2 : DSym
  /-- Result of BCD4, tens (R101). -/
  d3 : DSym
  /-- Result of BCD4, ones (R101). -/
  d4 : DSym
  /-- Operand of NORMALIZE, result of NORMALIZE, TICK_FN, INC_FN, JUMP_FN (R170, R175 to R177). -/
  time : Time
  /-- The mode12 operand of NORMALIZE (R170). -/
  mode12 : Bool
  deriving DecidableEq, Repr

/-- The wires after reset: the model's value (log 7). -/
def FnPort.zero : FnPort := ⟨0, 0, 0, 0, 0, 0, 0, 0, 0, ⟨0, 0, 0⟩, false⟩

/-- Everything the spec gives the machine, flat, one field per register, flag, timer and port, and the model's own last three. -/
structure State where
  /-- SEC (R20). -/
  sec : BitVec 6
  /-- MIN (R21). -/
  min : BitVec 6
  /-- HR (R22). -/
  hr : BitVec 5
  /-- M1, the mask of position 1, the leftmost (R24). -/
  m1 : Mask
  /-- M2 (R24). -/
  m2 : Mask
  /-- M3 (R24). -/
  m3 : Mask
  /-- M4 (R24). -/
  m4 : Mask
  /-- COLON (R24). -/
  colon : Bool
  /-- POS, the position the sweep is at (R25). -/
  pos : BitVec 3
  /-- T0, MS at the start of a window (R26). -/
  t0 : BitVec 32
  /-- WT, the microseconds left of the current wait (R27). -/
  wt : BitVec 32
  /-- IDLE (R28). -/
  idle : BitVec 17
  /-- HOLD (R29). -/
  hold : BitVec 4
  /-- REP (R30). -/
  rep : BitVec 4
  /-- TXT, four glyph codes, position 1 in bits 31:24 (R30). -/
  txt : BitVec 32
  /-- BI, the index of the boot frame (R30). -/
  bi : BitVec 8
  /-- PHASE, the one step MAIN may take next (R32). -/
  phase : Phase
  /-- RET, the return phase of the display sub-sequence (R33). -/
  ret : Phase
  /-- MODE (R34). -/
  mode : BitVec 2
  /-- SHOW_REQ (R35). -/
  showReq : Bool
  /-- LED_REQ (R35). -/
  ledReq : Bool
  /-- HIT (R36). -/
  hit : Bool
  /-- AUXP (R36). -/
  auxp : Bool
  /-- TICK_MASK (R37). -/
  tickMask : Bool
  /-- LED (R38), which is the port LED_OUT as well (R56). -/
  led : Bool
  /-- TICK_OVERRUN, sticky (R39). -/
  tickOverrun : Bool
  /-- CFG as sampled by the last RESET (R40; log 4). -/
  cfg : Cfg
  /-- IP: bit 0 TICK, bit 1 BTN, bit 2 AUX (R48). -/
  ip : BitVec 3
  /-- HALT (R49). -/
  halt : Bool
  /-- MS, whole milliseconds of NOW (R50). -/
  ms : BitVec 32
  /-- TCNT, microseconds since the last tick (R51). -/
  tcnt : BitVec 28
  /-- The level of BTN_N: true is released (R53). -/
  btnN : Bool
  /-- The level of AUX: true is touched (R53). -/
  aux : Bool
  /-- SEG_N (R54). -/
  segN : SegN
  /-- DIG (R55). -/
  dig : BitVec 4
  /-- COLON_N (R55). -/
  colonN : Bool
  /-- NOW, microseconds since reset release, owned by ENV (R7). -/
  now : Nat
  /-- The levels of the straps, which the next RESET samples (R40, R350; log 4). -/
  straps : Cfg
  /-- The MODEL's own: the schedule still to be run, an encoded trace (R6, R107; log 1). -/
  sched : List TraceWord
  /-- The MODEL's own: the input script of the nominal schedule, each change with the NOW it falls at (R7, R107; log 2). -/
  inputs : List (Nat × InputEvent)
  /-- The MODEL's own: the wires of the pure functions (log 8). -/
  fn : FnPort
  deriving DecidableEq, Repr

/-- The reasons a step stops the machine. The hardware has none: its one fault, TICK_OVERRUN, is a sticky bit (R300, R302). -/
inductive Fault where
  /-- Raised by step when the schedule is empty and no agent has an enabled step, so that the machine is stuck: only with TCNT at
  or past the tick period, which no run reaches (R51, R321; log 13). Safe: the hardware has no transition there either. -/
  | stuck
  deriving DecidableEq, Repr

/-- The reasons a step is given no meaning (R12). -/
inductive Refusal where
  /-- Raised by exec for a row whose meaning is not written; no arm raises it. Safe. -/
  | notModelled (mnemonic : String)
  /-- Raised by step when the schedule's next words encode no operation (R105, U5; log 15). Safe. -/
  | undecodable (e : DecodeErr)
  /-- Raised by the four input events when the input already has the level (R304, U7). Safe. -/
  | levelRepeat
  /-- Raised by RESET when the straps are ill formed (R47, R350, U3). Safe. -/
  | illFormedConfig
  /-- Raised by BCD4 and by RENDER_NUMBER for a value above 9999 (R104, U2). Safe. -/
  | valueTooLarge
  deriving DecidableEq, Repr

/-- The outcome of one step of this machine. -/
abbrev Result := Host.Outcome State Fault Refusal

/-- The state RESET makes from the straps (R350, R351): every register and output at its reset value, NOW at 0, the input levels
untouched. -/
def State.resetFrom (straps : Cfg) (btnN aux : Bool) : State where
  sec := straps.defaultSec
  min := straps.defaultMin
  hr := straps.defaultHr
  m1 := 0
  m2 := 0
  m3 := 0
  m4 := 0
  colon := false
  pos := 1
  t0 := 0
  wt := 0
  idle := 0
  hold := 0
  rep := 0
  txt := 0
  bi := 0
  phase := phBootHead
  ret := 0
  mode := modeSleeping
  showReq := false
  ledReq := false
  hit := false
  auxp := false
  tickMask := false
  led := false
  tickOverrun := false
  cfg := straps
  ip := 0
  halt := false
  ms := 0
  tcnt := 0
  btnN := btnN
  aux := aux
  segN := segRest
  dig := digRest
  colonN := true
  now := 0
  straps := straps
  sched := []
  inputs := []
  fn := FnPort.zero

/-- The machine right after reset with the default straps and the inputs released (R351; the OPEN straps are log 5's values, the
input levels log 6's). -/
def State.reset : State := State.resetFrom Cfg.default true false

end Sys2Proof.Machine
end

