-- ==== Sys2Proof/Machine/Operands.lean ====
section
/-! DEFINITION. The operand forms: input levels, ROM reads, the digits of a value, the bytes of TXT, the selected position
(30_encoding.md R99 to R102; 40_segment_encoder.md R121 to R125; 41_display_driver.md R143). -/
namespace Sys2Proof.Machine

/-- pressed(BTN): BTN_N = 0 (R53). -/
def State.pressed (s : State) : Bool := !s.btnN

/-- LED_OUT = LED at all times (R56). -/
def State.ledOut (s : State) : Bool := s.led

/-- TimeOfDay as naturals (R20 to R22). -/
def State.time (s : State) : Time := ⟨s.sec.toNat, s.min.toNat, s.hr.toNat⟩

/-- The milliseconds since T0, (MS - T0) mod 2^32 (R50, R211). -/
def State.elapsedMs (s : State) : Nat := (s.ms - s.t0).toNat

/-- ENC_DIGIT (R121). -/
def encDigit (d : DSym) : Mask := romDigit d

/-- ENC_GLYPH, relative to CFG.GLYPH_TABLE (R123). -/
def encGlyph (c : Cfg) (g : GSym) : Mask := romGlyph c.glyphTable g

/-- SEGMENT_ON, the single polarity constant: the level that lights a segment (R93, R125). -/
def segmentOn : Bool := false

/-- DRIVE_SEG: each lit segment at the level SEGMENT_ON, each other at its complement (R125). -/
def driveSeg (m : Mask) : SegN := if segmentOn then m else ~~~m

/-- The colon through the same polarity stage (R125): COLON_N = ~COLON. -/
def driveColon (colon : Bool) : Bool := if segmentOn then colon else !colon

/-- BLANK, the sentinel of DSYM4 (R91). -/
def blankSym : DSym := 0xA

/-- TIMEVALUE (R100); hours and minutes of five and six bits keep it below 2^14. -/
def timeValue (h m : Nat) : Val14 := BitVec.ofNat 14 (h * 100 + m)

/-- The greatest legal operand of RENDER_NUMBER (R99). -/
def maxValue : Nat := 9999

/-- The thousands digit of BCD4 (R101). -/
def bcdThousands (v : Val14) : DSym := BitVec.ofNat 4 (v.toNat / 1000)
/-- The hundreds digit of BCD4 (R101). -/
def bcdHundreds (v : Val14) : DSym := BitVec.ofNat 4 (v.toNat / 100 % 10)
/-- The tens digit of BCD4 (R101). -/
def bcdTens (v : Val14) : DSym := BitVec.ofNat 4 (v.toNat / 10 % 10)
/-- The ones digit of BCD4 (R101). -/
def bcdOnes (v : Val14) : DSym := BitVec.ofNat 4 (v.toNat % 10)

/-- Leading-zero substitution, at position 1 only (R102, R147). -/
def leadingSym (d1 : DSym) : DSym := if d1 = 0 then blankSym else d1

/-- The character of TXT that position p shows, p = 1 the leftmost, bits 31:24 (R74, R99). -/
def txtChar (txt : BitVec 32) (p : Nat) : GSym := txt.extractLsb' (8 * (4 - p)) 8

/-- M[POS] (R143); outside 1..4 a value no rule states (log 11). -/
def State.maskAt (s : State) : Mask :=
  if s.pos = 1 then s.m1 else if s.pos = 2 then s.m2 else if s.pos = 3 then s.m3 else if s.pos = 4 then s.m4
  else Config.maskOutside s.pos

/-- onehot4(p) (R8, R94); outside 1..4 a value no rule states (log 11). -/
def onehot4 (p : BitVec 3) : BitVec 4 :=
  if p = 1 then 0b0001 else if p = 2 then 0b0010 else if p = 3 then 0b0100 else if p = 4 then 0b1000
  else Config.digOutside p

/-- CFG.BOOT_SCRIPT[BI] (R356); past the end a value no rule states (log 11). -/
def bootFrame (c : Cfg) (bi : BitVec 8) : BitVec 32 := c.bootScript.getD bi.toNat (Config.frameOutside bi)

end Sys2Proof.Machine
end

