-- ==== Sys2Proof/Machine/Flags.lean ====
section
/-! DEFINITION. The flags and the enabling conditions: the request flags, the windows, which agent's step is enabled (10_state.md
R35 to R39, R48, R49; 30_encoding.md R96). -/
namespace Sys2Proof.Machine

/-- Both request flags cleared, NW's "mode flags cleared" (R35, R216, R237). -/
def State.clearRequests (s : State) : State := { s with showReq := false, ledReq := false }

/-- The display window is still open (R211). -/
def State.showOpen (s : State) : Bool := decide (s.elapsedMs < s.cfg.showMs.toNat)

/-- The window of LedToggle is over (R236). -/
def State.ledOver (s : State) : Bool := decide (s.cfg.ledWindowMs.toNat ≤ s.elapsedMs)

/-- The current boot frame is still to be shown (R356). -/
def State.frameOpen (s : State) : Bool := decide (s.elapsedMs < s.cfg.msgMs.toNat)

/-- The phases whose step waits for WT = 0 (R96). -/
def waitsForTimer (p : Phase) : Bool :=
  p == phShwDb1 || p == phShwDarkw || p == phSetBdarkw || p == phLedDb1 || p == phDdHold || p == phBootDarkw

/-- The enabling condition a phase's rule adds, the column "waits for" of R96. -/
def State.phaseReady (s : State) (p : Phase) : Bool :=
  if waitsForTimer p then s.wt == 0
  else if p == phShwDb0 || p == phShwDb2 then !s.pressed
  else if p == phLedDb0 || p == phLedDb2 then !s.aux
  else if p == phLedLoop then s.ledOver || (s.aux != s.auxp)
  else true

/-- MAIN may take the step of phase p: MAIN is not halted (R49), PHASE selects that step (R32, R98), and its own condition holds. -/
def State.mainEnabled (s : State) (p : Phase) : Bool := !s.halt && s.phase == p && s.phaseReady p

/-- The number of the tick source, the button source and the AUX source (R97). -/
def srcTick : Nat := 0
/-- The button source (R97). -/
def srcBtn : Nat := 1
/-- The AUX source (R97). -/
def srcAux : Nat := 2

/-- The bit of IP that belongs to source n (R48, R97). -/
def ipBit (n : Nat) : BitVec 3 := 1#3 <<< n

/-- Source n is pending (R48). -/
def State.pending (s : State) (n : Nat) : Bool := s.ip.getLsbD n

/-- The handler of source n is enabled: its bit is pending, and for the tick TICK_MASK is 0 (R310 to R312, R37). -/
def State.irqEnabled (s : State) (n : Nat) : Bool := s.pending n && !(n == srcTick && s.tickMask)

/-- A source sets its pending bit; one that is already set stays set (R305, R319). -/
def State.setPending (s : State) (n : Nat) : State := { s with ip := s.ip ||| ipBit n }

/-- A handler clears the pending bit of its source (R310 to R312). -/
def State.clearPending (s : State) (n : Nat) : State := { s with ip := s.ip &&& ~~~ ipBit n }

/-- ADVANCE dt is enabled: time passes, and no tick boundary is skipped (R321). -/
def State.advanceEnabled (s : State) (dt : Nat) : Bool := decide (1 ≤ dt) && decide (s.tcnt.toNat + dt ≤ s.cfg.periodUs)

end Sys2Proof.Machine
end

