-- ==== Sys2Proof/Machine/Ops.lean ====
section
/-! DEFINITION. The named operations on the state that the meanings share: a step that is held or taken, the control transfer, the
display lines, waits, TimeOfDay, taking an interrupt and its return, the passing of time. -/
namespace Sys2Proof.Machine

/-- A step of an agent: taken where it is enabled; where it is not, the agent is held and nothing changes (R10, R12; log 3). -/
def takeWhen (enabled : Bool) (t s : State) : Result := if enabled then .next t else .next s

/-- PHASE <- p, the control transfer of MAIN (R10, R203). -/
def State.goto (s : State) (p : Phase) : State := { s with phase := p }

/-- The display at rest: SEG_N, DIG and COLON_N de-energised (R54, R55, R145). -/
def State.restLines (s : State) : State := { s with segN := segRest, dig := digRest, colonN := true }

/-- Position POS energised with its mask, and the colon if the sweep shows it (R143). -/
def State.lightPos (s : State) : State :=
  { s with segN := driveSeg s.maskAt, colonN := driveColon s.colon, dig := onehot4 s.pos }

/-- WT loaded with a number of microseconds (R27). -/
def State.startWait (s : State) (us : Nat) : State := { s with wt := BitVec.ofNat 32 us }

/-- SEC, MIN, HR written together (R76). -/
def State.setTime (s : State) (t : Time) : State :=
  { s with sec := BitVec.ofNat 6 t.s, min := BitVec.ofNat 6 t.m, hr := BitVec.ofNat 5 t.h }

/-- T0 <- MS: a window starts (R26). -/
def State.markStart (s : State) : State := { s with t0 := s.ms }

/-- The four masks of a sweep, and POS at the first position (R24, R25). -/
def State.loadMasks (s : State) (a b c d : Mask) : State := { s with m1 := a, m2 := b, m3 := c, m4 := d, pos := 1 }

/-- The DisplayBuffer of a number: BCD4, leading-zero suppression, the digit table (R101, R102, R141, R147). -/
def State.snapValue (s : State) (v : Val14) : State :=
  s.loadMasks (encDigit (leadingSym (bcdThousands v))) (encDigit (bcdHundreds v)) (encDigit (bcdTens v)) (encDigit (bcdOnes v))

/-- The DisplayBuffer of four characters: the glyph table, no suppression, no colon (R150). -/
def State.loadGlyphs (s : State) : State :=
  { s.loadMasks (encGlyph s.cfg (txtChar s.txt 1)) (encGlyph s.cfg (txtChar s.txt 2))
      (encGlyph s.cfg (txtChar s.txt 3)) (encGlyph s.cfg (txtChar s.txt 4)) with colon := false }

/-- TAKING AN INTERRUPT (R310 to R313, R317): the handler of source n is one atomic step that does its body, clears its pending bit
and clears HALT. It saves nothing, changes no register of MAIN's, switches no mode and goes through no vector. -/
def State.takeInterrupt (s : State) (n : Nat) (body : State → State) : State :=
  { (body s).clearPending n with halt := false }

/-- RETURN FROM AN INTERRUPT (R318): there is no return operation and nothing to restore; MAIN's next step is the one PHASE selects. -/
def State.returnFromInterrupt (s : State) : State := s

/-- One handler step, held while its source is not enabled (R310 to R312). -/
def handlerStep (n : Nat) (body : State → State) (s : State) : Result :=
  takeWhen (s.irqEnabled n) (s.takeInterrupt n body).returnFromInterrupt s

/-- One MAIN step of phase p, held while it is not enabled (R32, R96). -/
def mainStep (p : Phase) (t s : State) : Result := takeWhen (s.mainEnabled p) t s

/-- TICK_RAISE (R309): the tick source sets its pending bit, or records the lost period if it is set already (R302). -/
def State.tickRaise (s : State) : State :=
  if s.pending srcTick then { s with tickOverrun := true } else s.setPending srcTick

/-- The counters over dt microseconds without the tick timer: NOW, MS, WT (R321 lines 1 to 3). -/
def State.passTime (s : State) (dt : Nat) : State :=
  { s with now := s.now + dt, ms := BitVec.ofNat 32 ((s.now + dt) / 1000), wt := BitVec.ofNat 32 (s.wt.toNat - dt) }

/-- ADVANCE's effect (R321): time passes, and the tick timer restarts and raises the tick where it reaches the period. -/
def State.advanceBy (s : State) (dt : Nat) : State :=
  if s.tcnt.toNat + dt = s.cfg.periodUs then { s.passTime dt with tcnt := 0 }.tickRaise
  else { s.passTime dt with tcnt := BitVec.ofNat 28 (s.tcnt.toNat + dt) }

/-- RESET's effect (R350 to R352): the reset table over the levels of the straps; the input levels, the schedule and the input script
belong to ENV and stay. -/
def State.resetNow (s : State) : State :=
  { State.resetFrom s.straps s.btnN s.aux with sched := s.sched, inputs := s.inputs }

end Sys2Proof.Machine
end

