-- ==== Sys2Proof/Machine/Boot.lean ====
section
/-! DEFINITION. Power-on, reset as a step, and the boot phases (70_reset_and_hazards.md R350 to R358). -/
namespace Sys2Proof.Machine

/-- RESET (R350): always enabled; refused where the straps are ill formed (R47). -/
def execReset (s : State) : Result := if s.straps.wf then .next s.resetNow else .refused .illFormedConfig

/-- Power on with the given straps and input levels (R350): the run starts at the reset state, or is refused before it starts where
the configuration is ill formed (R47, R301). -/
def powerOn (straps : Cfg) (btnN aux : Bool) : Result :=
  if straps.wf then .next (State.resetFrom straps btnN aux) else .refused .illFormedConfig

/-- BOOT_HEAD (R355): the next frame of the script, or hand-over to SLP_EVAL. -/
def execBootHead (s : State) : Result :=
  mainStep phBootHead
    (if s.bi.toNat < s.cfg.bootScript.length then s.markStart.goto phBootFrame else s.goto phSlpEval) s

/-- BOOT_FRAME (R356): one more sweep of the frame, or the next frame; the sum fits BI in every reachable state (R31; log 12). -/
def execBootFrame (s : State) : Result :=
  mainStep phBootFrame
    (if s.frameOpen then { s with txt := bootFrame s.cfg s.bi, ret := phBootDark }.goto phRgLoad
     else { s with bi := s.bi + 1 }.goto phBootHead) s

/-- BOOT_DARK (R357). -/
def execBootDark (s : State) : Result := mainStep phBootDark ((s.startWait s.cfg.darkUs.toNat).goto phBootDarkw) s

/-- BOOT_DARKW (R358). -/
def execBootDarkw (s : State) : Result := mainStep phBootDarkw (s.goto phBootFrame) s

end Sys2Proof.Machine
end

