-- ==== Sys2Proof/Machine/Debounce.lean ====
section
/-! DEFINITION. The debounce sequences of the button and of AUX (44_button_debounce.md). -/
namespace Sys2Proof.Machine

/-- SHW_DB0 (R261): the first wait for release, then the settle delay is loaded. -/
def execShwDb0 (s : State) : Result :=
  mainStep phShwDb0 ((s.startWait (s.cfg.settleMs.toNat * 1000)).goto phShwDb1) s

/-- SHW_DB1 (R262): the settle delay. -/
def execShwDb1 (s : State) : Result := mainStep phShwDb1 (s.goto phShwDb2) s

/-- SHW_DB2 (R263): the second wait for release. -/
def execShwDb2 (s : State) : Result := mainStep phShwDb2 (s.goto phShwBegin) s

/-- LED_DB0 (R264): the first wait for AUX release, then the settle delay is loaded. -/
def execLedDb0 (s : State) : Result :=
  mainStep phLedDb0 ((s.startWait (s.cfg.auxSettleMs.toNat * 1000)).goto phLedDb1) s

/-- LED_DB1 (R265): the AUX settle delay. -/
def execLedDb1 (s : State) : Result := mainStep phLedDb1 (s.goto phLedDb2) s

/-- LED_DB2 (R266): the second wait for AUX release. -/
def execLedDb2 (s : State) : Result := mainStep phLedDb2 (s.goto phLedBegin) s

end Sys2Proof.Machine
end

