-- ==== Sys2Proof/Machine/Display.lean ====
section
/-! DEFINITION. The Display Driver (41_display_driver.md): the five steps of a sweep, and RENDER_NUMBER with an explicit operand. -/
namespace Sys2Proof.Machine

/-- RN_SNAP (R141): HR and MIN in one step, their value's masks, POS at 1. -/
def execRnSnap (s : State) : Result :=
  mainStep phRnSnap ((s.snapValue (timeValue s.hr.toNat s.min.toNat)).goto phDdOn) s

/-- RG_LOAD (R150). -/
def execRgLoad (s : State) : Result := mainStep phRgLoad (s.loadGlyphs.goto phDdOn) s

/-- DD_ON (R143). -/
def execDdOn (s : State) : Result :=
  mainStep phDdOn ((s.lightPos.startWait s.cfg.dwellUs.toNat).goto phDdHold) s

/-- DD_HOLD (R144). -/
def execDdHold (s : State) : Result := mainStep phDdHold (s.goto phDdOff) s

/-- DD_OFF (R145): de-energise, then the next position, or return through RET. -/
def execDdOff (s : State) : Result :=
  mainStep phDdOff
    (if s.pos.toNat < 4 then { s.restLines with pos := s.pos + 1 }.goto phDdOn else s.restLines.goto s.ret) s

/-- RENDER_NUMBER(value, showColon) as a caller other than MAIN's phases offers it (R142): COLON, then RN_SNAP's lines with the
operand for the value; above 9999 it is refused (R104). -/
def renderNumber (value : Val14) (showColon : Bool) (s : State) : Result :=
  if value.toNat ≤ maxValue then .next (({ s with colon := showColon }.snapValue value).goto phDdOn)
  else .refused .valueTooLarge

end Sys2Proof.Machine
end

