-- ==== Sys2Proof/Machine/Clock.lean ====
section
/-! DEFINITION. The Clock Engine (42_clock_engine.md): NORMALIZE, the three transitions, and the steps that evaluate them. -/
namespace Sys2Proof.Machine

/-- HWRAP, the hour wraparound (R171). -/
def hwrap (h1 : Nat) (mode12 : Bool) : Nat := if mode12 then (h1 + 11) % 12 + 1 else h1 % 24

/-- NORMALIZE, on all naturals (R170). -/
def normalize (t : Time) (mode12 : Bool) : Time :=
  let m1 := t.m + t.s / 60
  ⟨t.s % 60, m1 % 60, hwrap (t.h + m1 / 60) mode12⟩

/-- TICK_FN (R175). -/
def tickFn (c : Cfg) (t : Time) : Time := normalize ⟨t.s + c.tickPeriodS.toNat, t.m, t.h⟩ c.mode12

/-- INC_FN (R176). -/
def incFn (c : Cfg) (t : Time) : Time := normalize ⟨t.s, t.m + 1, t.h⟩ c.mode12

/-- JUMP_FN (R177). -/
def jumpFn (c : Cfg) (t : Time) : Time := normalize ⟨t.s, t.m / 10 * 10 + 10, t.h⟩ c.mode12

/-- T, the seconds a time stands for (R174). -/
def secondsOf (t : Time) : Nat := t.h * 3600 + t.m * 60 + t.s

/-- CYC, the seconds in the hour cycle (R174). -/
def cycleSeconds (mode12 : Bool) : Nat := if mode12 then 43200 else 86400

/-- NORMALIZE as a step (R170): its operands are naturals on the function's wires (log 8). -/
def execNormalize (s : State) : Result :=
  .next { s with fn := { s.fn with time := normalize s.fn.time s.fn.mode12 } }

/-- TICK_FN as a step (R175, R103): its operands are SEC, MIN, HR; it writes no register (log 8). -/
def execTickFn (s : State) : Result := .next { s with fn := { s.fn with time := tickFn s.cfg s.time } }

/-- INC_FN as a step (R176, R103; log 8). -/
def execIncFn (s : State) : Result := .next { s with fn := { s.fn with time := incFn s.cfg s.time } }

/-- JUMP_FN as a step (R177, R103; log 8). -/
def execJumpFn (s : State) : Result := .next { s with fn := { s.fn with time := jumpFn s.cfg s.time } }

end Sys2Proof.Machine
end

