-- ==== Sys2Proof/Machine/Interrupts.lean ====
section
/-! DEFINITION. The handlers and the events of the environment (60_exceptions.md R303 to R312, R321). -/
namespace Sys2Proof.Machine

/-- IRQ_TICK (R310): the period is added to TimeOfDay. -/
def execIrqTick (s : State) : Result := handlerStep srcTick (fun u => u.setTime (tickFn u.cfg u.time)) s

/-- IRQ_BTN (R311). -/
def execIrqBtn (s : State) : Result := handlerStep srcBtn (fun u => { u with showReq := true }) s

/-- IRQ_AUX (R312). -/
def execIrqAux (s : State) : Result := handlerStep srcAux (fun u => { u with ledReq := true }) s

/-- ADVANCE dt (R321): held where dt is 0 or would skip a tick boundary. -/
def execAdvance (dt : Nat) (s : State) : Result := takeWhen (s.advanceEnabled dt) (s.advanceBy dt) s

/-- BTN_PRESS (R305): the falling edge; refused where the button is down already (R304). -/
def execBtnPress (s : State) : Result :=
  if s.btnN then .next ({ s with btnN := false }.setPending srcBtn) else .refused .levelRepeat

/-- BTN_RELEASE (R306): the rising edge raises nothing; refused where the button is up already (R304). -/
def execBtnRelease (s : State) : Result :=
  if s.btnN then .refused .levelRepeat else .next { s with btnN := true }

/-- AUX_PRESS (R307); refused where AUX is touched already (R304). -/
def execAuxPress (s : State) : Result :=
  if s.aux then .refused .levelRepeat else .next ({ s with aux := true }.setPending srcAux)

/-- AUX_RELEASE (R308): a change in this direction raises the source too; refused where AUX is released already (R304). -/
def execAuxRelease (s : State) : Result :=
  if s.aux then .next ({ s with aux := false }.setPending srcAux) else .refused .levelRepeat

/-- TICK_RAISE (R309) as a step of its own, which that rule lets a model offer (log 14). -/
def execTickRaise (s : State) : Result := .next s.tickRaise

end Sys2Proof.Machine
end

