-- ==== Sys2Proof/Machine/Mode.lean ====
section
/-! DEFINITION. The Mode Controller (43_mode_controller.md): ShowingTime, SettingTime, LedToggle. -/
namespace Sys2Proof.Machine

/-- SHW_BEGIN (R210): the LED comes on and the display window starts. -/
def execShwBegin (s : State) : Result :=
  mainStep phShwBegin ({ s.markStart with led := true, hit := false }.goto phShwHead) s

/-- SHW_HEAD (R211): one more sweep with the colon while the window is open. -/
def execShwHead (s : State) : Result :=
  mainStep phShwHead
    (if s.showOpen then { s with colon := true, ret := phShwDark }.goto phRnSnap else s.goto phShwExpire) s

/-- SHW_DARK (R212). -/
def execShwDark (s : State) : Result := mainStep phShwDark ((s.startWait s.cfg.darkUs.toNat).goto phShwDarkw) s

/-- SHW_DARKW (R213). -/
def execShwDarkw (s : State) : Result := mainStep phShwDarkw (s.goto phShwPoll) s

/-- SHW_POLL (R214): a press is remembered, a release after one leaves early. -/
def execShwPoll (s : State) : Result :=
  mainStep phShwPoll
    (if s.pressed then { s with hit := true }.goto phShwHead
     else if s.hit then s.goto phExitOff else s.goto phShwHead) s

/-- SHW_EXPIRE (R215): a button still held starts SettingTime. -/
def execShwExpire (s : State) : Result :=
  mainStep phShwExpire
    (if s.pressed then { s with mode := modeSetting }.goto phSetBegin else s.goto phExitOff) s

/-- EXIT_OFF (R216): back to Sleeping with the LED off and the flags cleared; IP is not touched. -/
def execExitOff (s : State) : Result :=
  mainStep phExitOff ({ s.clearRequests with led := false, hit := false, mode := modeSleeping }.goto phSlpEval) s

/-- SET_BEGIN (R220). -/
def execSetBegin (s : State) : Result := mainStep phSetBegin ({ s with hold := 0, idle := 0 }.goto phSetHead) s

/-- SET_HEAD (R221): a control cycle, or the idle exit. -/
def execSetHead (s : State) : Result :=
  mainStep phSetHead
    (if s.idle.toNat < s.cfg.setIdleMs.toNat then { s with rep := 0, colon := true }.goto phSetBlink
     else s.goto phExitOff) s

/-- SET_BLINK (R222): the sweeps of the colon-on half, then of the colon-off half, then the sample. -/
def execSetBlink (s : State) : Result :=
  mainStep phSetBlink
    (if s.rep.toNat < s.cfg.blinkReps.toNat then { s with ret := phSetBdark }.goto phRnSnap
     else if s.colon then { s with colon := false, rep := 0 } else s.goto phSetPoll) s

/-- SET_BDARK (R223). -/
def execSetBdark (s : State) : Result := mainStep phSetBdark ((s.startWait s.cfg.darkUs.toNat).goto phSetBdarkw) s

/-- SET_BDARKW (R224); the sum fits REP in every reachable state (R31; log 12). -/
def execSetBdarkw (s : State) : Result := mainStep phSetBdarkw ({ s with rep := s.rep + 1 }.goto phSetBlink) s

/-- SET_POLL (R225): a pressed sample counts the hold, saturating, and opens the bracket; a released one ends the hold. -/
def execSetPoll (s : State) : Result :=
  mainStep phSetPoll
    (if s.pressed then
       { s with idle := 0, hold := BitVec.ofNat 4 (Nat.min (s.hold.toNat + 1) s.cfg.accelCycles.toNat) }.goto phSetLock
     else { s with hold := 0 }.goto phSetAcc) s

/-- SET_LOCK (R231): the exclusion bracket opens. -/
def execSetLock (s : State) : Result := mainStep phSetLock ({ s with tickMask := true }.goto phSetMut) s

/-- SET_MUT (R232): the interactive increment, or the accelerated jump once HOLD has reached the threshold. -/
def execSetMut (s : State) : Result :=
  mainStep phSetMut
    ((s.setTime (if s.hold.toNat < s.cfg.accelCycles.toNat then incFn s.cfg s.time else jumpFn s.cfg s.time)).goto
      phSetUnlock) s

/-- SET_UNLOCK (R233): the bracket closes. -/
def execSetUnlock (s : State) : Result := mainStep phSetUnlock ({ s with tickMask := false }.goto phSetAcc) s

/-- SET_ACC (R234): the cycle is counted, pressed or not; the sum fits IDLE in every reachable state (R31; log 12). -/
def execSetAcc (s : State) : Result :=
  mainStep phSetAcc ({ s with idle := BitVec.ofNat 17 (s.idle.toNat + s.cfg.setCycleMs.toNat) }.goto phSetHead) s

/-- LED_BEGIN (R235): the waking touch toggles the LED and the window starts. -/
def execLedBegin (s : State) : Result :=
  mainStep phLedBegin ({ s.markStart with led := !s.led, auxp := false }.goto phLedLoop) s

/-- LED_LOOP (R236): the window's end, a new press, or its release, the first that holds. -/
def execLedLoop (s : State) : Result :=
  mainStep phLedLoop
    (if s.ledOver then s.goto phLedExit
     else if s.aux && !s.auxp then { s with led := !s.led, auxp := true }
     else { s with auxp := false }) s

/-- LED_EXIT (R237): back to Sleeping with the flags cleared; the LED keeps its state. -/
def execLedExit (s : State) : Result :=
  mainStep phLedExit ({ s.clearRequests with mode := modeSleeping }.goto phSlpEval) s

end Sys2Proof.Machine
end

