-- ==== Sys2Proof/Machine/Segment.lean ====
section
/-! DEFINITION. The Segment Encoder (40_segment_encoder.md), BCD4 and TIMEVALUE (30_encoding.md) as steps, and the symbol rows of the
table. A function writes no register of the spec: its operands and result stand on the model's wires (log 8). -/
namespace Sys2Proof.Machine

/-- ENC_DIGIT (R121). -/
def execEncDigit (s : State) : Result := .next { s with fn := { s.fn with mask := encDigit s.fn.dsym } }

/-- ENC_GLYPH (R123). -/
def execEncGlyph (s : State) : Result := .next { s with fn := { s.fn with mask := encGlyph s.cfg s.fn.gsym } }

/-- DRIVE_SEG (R125). -/
def execDriveSeg (s : State) : Result := .next { s with fn := { s.fn with segn := driveSeg s.fn.mask } }

/-- BCD4 (R101); a value above 9999 is refused (R104). -/
def execBcd4 (s : State) : Result :=
  if s.fn.value.toNat ≤ maxValue then
    .next { s with fn := { s.fn with
      d1 := bcdThousands s.fn.value, d2 := bcdHundreds s.fn.value, d3 := bcdTens s.fn.value, d4 := bcdOnes s.fn.value } }
  else .refused .valueTooLarge

/-- TIMEVALUE (R100, R103): its operands are HR and MIN. -/
def execTimevalue (s : State) : Result :=
  .next { s with fn := { s.fn with value := timeValue s.hr.toNat s.min.toNat } }

/-- A digit symbol offered to the Segment Encoder: the mask ENC_DIGIT makes of it and the SEG_N value of that mask (R121, R122, R125;
log 9). -/
def presentDigit (d : DSym) (s : State) : State :=
  { s with fn := { s.fn with dsym := d, mask := encDigit d, segn := driveSeg (encDigit d) } }

/-- A glyph symbol offered to the Segment Encoder: the mask ENC_GLYPH makes of it and the SEG_N value of that mask (R123 to R125;
log 9). -/
def presentGlyph (g : GSym) (s : State) : State :=
  { s with fn := { s.fn with gsym := g, mask := encGlyph s.cfg g, segn := driveSeg (encGlyph s.cfg g) } }

/-- DIGIT_0 (R122). -/
def execDigit0 (s : State) : Result := .next (presentDigit 0x0 s)

/-- DIGIT_1 (R122). -/
def execDigit1 (s : State) : Result := .next (presentDigit 0x1 s)

/-- DIGIT_2 (R122). -/
def execDigit2 (s : State) : Result := .next (presentDigit 0x2 s)

/-- DIGIT_3 (R122). -/
def execDigit3 (s : State) : Result := .next (presentDigit 0x3 s)

/-- DIGIT_4 (R122). -/
def execDigit4 (s : State) : Result := .next (presentDigit 0x4 s)

/-- DIGIT_5 (R122). -/
def execDigit5 (s : State) : Result := .next (presentDigit 0x5 s)

/-- DIGIT_6 (R122). -/
def execDigit6 (s : State) : Result := .next (presentDigit 0x6 s)

/-- DIGIT_7 (R122). -/
def execDigit7 (s : State) : Result := .next (presentDigit 0x7 s)

/-- DIGIT_8 (R122). -/
def execDigit8 (s : State) : Result := .next (presentDigit 0x8 s)

/-- DIGIT_9 (R122). -/
def execDigit9 (s : State) : Result := .next (presentDigit 0x9 s)

/-- BLANK (R122). -/
def execBlank (s : State) : Result := .next (presentDigit 0xA s)

/-- UNDEF_11 (R122). -/
def execUndef11 (s : State) : Result := .next (presentDigit 0xB s)

/-- UNDEF_12 (R122). -/
def execUndef12 (s : State) : Result := .next (presentDigit 0xC s)

/-- UNDEF_13 (R122). -/
def execUndef13 (s : State) : Result := .next (presentDigit 0xD s)

/-- UNDEF_14 (R122). -/
def execUndef14 (s : State) : Result := .next (presentDigit 0xE s)

/-- UNDEF_15 (R122). -/
def execUndef15 (s : State) : Result := .next (presentDigit 0xF s)

/-- GLYPH_SPACE (R124). -/
def execGlyphSpace (s : State) : Result := .next (presentGlyph 0x20 s)

/-- GLYPH_MINUS (R124). -/
def execGlyphMinus (s : State) : Result := .next (presentGlyph 0x2D s)

/-- GLYPH_0 (R124). -/
def execGlyph0 (s : State) : Result := .next (presentGlyph 0x30 s)

/-- GLYPH_1 (R124). -/
def execGlyph1 (s : State) : Result := .next (presentGlyph 0x31 s)

/-- GLYPH_2 (R124). -/
def execGlyph2 (s : State) : Result := .next (presentGlyph 0x32 s)

/-- GLYPH_3 (R124). -/
def execGlyph3 (s : State) : Result := .next (presentGlyph 0x33 s)

/-- GLYPH_4 (R124). -/
def execGlyph4 (s : State) : Result := .next (presentGlyph 0x34 s)

/-- GLYPH_5 (R124). -/
def execGlyph5 (s : State) : Result := .next (presentGlyph 0x35 s)

/-- GLYPH_6 (R124). -/
def execGlyph6 (s : State) : Result := .next (presentGlyph 0x36 s)

/-- GLYPH_7 (R124). -/
def execGlyph7 (s : State) : Result := .next (presentGlyph 0x37 s)

/-- GLYPH_8 (R124). -/
def execGlyph8 (s : State) : Result := .next (presentGlyph 0x38 s)

/-- GLYPH_9 (R124). -/
def execGlyph9 (s : State) : Result := .next (presentGlyph 0x39 s)

/-- GLYPH_A (R124). -/
def execGlyphUpA (s : State) : Result := .next (presentGlyph 0x41 s)

/-- GLYPH_C (R124). -/
def execGlyphUpC (s : State) : Result := .next (presentGlyph 0x43 s)

/-- GLYPH_E (R124). -/
def execGlyphUpE (s : State) : Result := .next (presentGlyph 0x45 s)

/-- GLYPH_F (R124). -/
def execGlyphUpF (s : State) : Result := .next (presentGlyph 0x46 s)

/-- GLYPH_H (R124). -/
def execGlyphUpH (s : State) : Result := .next (presentGlyph 0x48 s)

/-- GLYPH_L (R124). -/
def execGlyphUpL (s : State) : Result := .next (presentGlyph 0x4C s)

/-- GLYPH_P (R124). -/
def execGlyphUpP (s : State) : Result := .next (presentGlyph 0x50 s)

/-- GLYPH_S (R124). -/
def execGlyphUpS (s : State) : Result := .next (presentGlyph 0x53 s)

/-- GLYPH_U (R124). -/
def execGlyphUpU (s : State) : Result := .next (presentGlyph 0x55 s)

/-- GLYPH_b (R124). -/
def execGlyphLowB (s : State) : Result := .next (presentGlyph 0x62 s)

/-- GLYPH_c (R124). -/
def execGlyphLowC (s : State) : Result := .next (presentGlyph 0x63 s)

/-- GLYPH_d (R124). -/
def execGlyphLowD (s : State) : Result := .next (presentGlyph 0x64 s)

/-- GLYPH_h (R124). -/
def execGlyphLowH (s : State) : Result := .next (presentGlyph 0x68 s)

/-- GLYPH_n (R124). -/
def execGlyphLowN (s : State) : Result := .next (presentGlyph 0x6E s)

/-- GLYPH_o (R124). -/
def execGlyphLowO (s : State) : Result := .next (presentGlyph 0x6F s)

/-- GLYPH_r (R124). -/
def execGlyphLowR (s : State) : Result := .next (presentGlyph 0x72 s)

/-- GLYPH_t (R124). -/
def execGlyphLowT (s : State) : Result := .next (presentGlyph 0x74 s)

/-- GLYPH_u (R124). -/
def execGlyphLowU (s : State) : Result := .next (presentGlyph 0x75 s)

/-- GLYPH_y (R124). -/
def execGlyphLowY (s : State) : Result := .next (presentGlyph 0x79 s)

/-- ENC_GLYPH of a character code no row stands for: its word in GLYPH_ROM, which is 0x00 where the glyph table defines nothing; none of
the 256 codes fails (R104, R123). -/
def execEncGlyphOf (c : GSym) (s : State) : Result := .next (presentGlyph c s)

end Sys2Proof.Machine
end

