-- ==== Sys2Proof/Machine/Sleep.lean ====
section
/-! DEFINITION. The Power/Sleep Scheduler (45_sleep_scheduler.md). -/
namespace Sys2Proof.Machine

/-- SLP_EVAL (R281): dispatch to the mode asked for, the button before AUX, or halt. -/
def execSlpEval (s : State) : Result :=
  mainStep phSlpEval
    (if s.cfg.alwaysOn || s.showReq then { s with mode := modeShowing }.goto phShwDb0
     else if s.ledReq then { s with mode := modeLed }.goto phLedDb0
     else { s with halt := true }) s

end Sys2Proof.Machine
end

