-- ==== Sys2Proof/Machine/Dispatch.lean ====
section
/-! DEFINITION. exec: one arm per row of the table, each one call of its meaning. -/
namespace Sys2Proof.Machine

def exec (i : Instr) (s : State) : Host.Outcome State Fault Refusal :=
  match i with
  | .slpEval => Sys2Proof.Machine.execSlpEval s
  | .shwDb0 => Sys2Proof.Machine.execShwDb0 s
  | .shwDb1 => Sys2Proof.Machine.execShwDb1 s
  | .shwDb2 => Sys2Proof.Machine.execShwDb2 s
  | .shwBegin => Sys2Proof.Machine.execShwBegin s
  | .shwHead => Sys2Proof.Machine.execShwHead s
  | .shwDark => Sys2Proof.Machine.execShwDark s
  | .shwDarkw => Sys2Proof.Machine.execShwDarkw s
  | .shwPoll => Sys2Proof.Machine.execShwPoll s
  | .shwExpire => Sys2Proof.Machine.execShwExpire s
  | .exitOff => Sys2Proof.Machine.execExitOff s
  | .setBegin => Sys2Proof.Machine.execSetBegin s
  | .setHead => Sys2Proof.Machine.execSetHead s
  | .setBlink => Sys2Proof.Machine.execSetBlink s
  | .setBdark => Sys2Proof.Machine.execSetBdark s
  | .setBdarkw => Sys2Proof.Machine.execSetBdarkw s
  | .setPoll => Sys2Proof.Machine.execSetPoll s
  | .setLock => Sys2Proof.Machine.execSetLock s
  | .setMut => Sys2Proof.Machine.execSetMut s
  | .setUnlock => Sys2Proof.Machine.execSetUnlock s
  | .setAcc => Sys2Proof.Machine.execSetAcc s
  | .ledDb0 => Sys2Proof.Machine.execLedDb0 s
  | .ledDb1 => Sys2Proof.Machine.execLedDb1 s
  | .ledDb2 => Sys2Proof.Machine.execLedDb2 s
  | .ledBegin => Sys2Proof.Machine.execLedBegin s
  | .ledLoop => Sys2Proof.Machine.execLedLoop s
  | .ledExit => Sys2Proof.Machine.execLedExit s
  | .rnSnap => Sys2Proof.Machine.execRnSnap s
  | .rgLoad => Sys2Proof.Machine.execRgLoad s
  | .ddOn => Sys2Proof.Machine.execDdOn s
  | .ddHold => Sys2Proof.Machine.execDdHold s
  | .ddOff => Sys2Proof.Machine.execDdOff s
  | .bootHead => Sys2Proof.Machine.execBootHead s
  | .bootFrame => Sys2Proof.Machine.execBootFrame s
  | .bootDark => Sys2Proof.Machine.execBootDark s
  | .bootDarkw => Sys2Proof.Machine.execBootDarkw s
  | .irqTick => Sys2Proof.Machine.execIrqTick s
  | .irqBtn => Sys2Proof.Machine.execIrqBtn s
  | .irqAux => Sys2Proof.Machine.execIrqAux s
  | .advance dt => Sys2Proof.Machine.execAdvance dt s
  | .btnPress => Sys2Proof.Machine.execBtnPress s
  | .btnRelease => Sys2Proof.Machine.execBtnRelease s
  | .auxPress => Sys2Proof.Machine.execAuxPress s
  | .auxRelease => Sys2Proof.Machine.execAuxRelease s
  | .reset => Sys2Proof.Machine.execReset s
  | .tickRaise => Sys2Proof.Machine.execTickRaise s
  | .encDigit => Sys2Proof.Machine.execEncDigit s
  | .encGlyph => Sys2Proof.Machine.execEncGlyph s
  | .driveSeg => Sys2Proof.Machine.execDriveSeg s
  | .bcd4 => Sys2Proof.Machine.execBcd4 s
  | .normalize => Sys2Proof.Machine.execNormalize s
  | .timevalue => Sys2Proof.Machine.execTimevalue s
  | .tickFn => Sys2Proof.Machine.execTickFn s
  | .incFn => Sys2Proof.Machine.execIncFn s
  | .jumpFn => Sys2Proof.Machine.execJumpFn s
  | .digit0 => Sys2Proof.Machine.execDigit0 s
  | .digit1 => Sys2Proof.Machine.execDigit1 s
  | .digit2 => Sys2Proof.Machine.execDigit2 s
  | .digit3 => Sys2Proof.Machine.execDigit3 s
  | .digit4 => Sys2Proof.Machine.execDigit4 s
  | .digit5 => Sys2Proof.Machine.execDigit5 s
  | .digit6 => Sys2Proof.Machine.execDigit6 s
  | .digit7 => Sys2Proof.Machine.execDigit7 s
  | .digit8 => Sys2Proof.Machine.execDigit8 s
  | .digit9 => Sys2Proof.Machine.execDigit9 s
  | .blank => Sys2Proof.Machine.execBlank s
  | .undef11 => Sys2Proof.Machine.execUndef11 s
  | .undef12 => Sys2Proof.Machine.execUndef12 s
  | .undef13 => Sys2Proof.Machine.execUndef13 s
  | .undef14 => Sys2Proof.Machine.execUndef14 s
  | .undef15 => Sys2Proof.Machine.execUndef15 s
  | .glyphSpace => Sys2Proof.Machine.execGlyphSpace s
  | .glyphMinus => Sys2Proof.Machine.execGlyphMinus s
  | .glyph0 => Sys2Proof.Machine.execGlyph0 s
  | .glyph1 => Sys2Proof.Machine.execGlyph1 s
  | .glyph2 => Sys2Proof.Machine.execGlyph2 s
  | .glyph3 => Sys2Proof.Machine.execGlyph3 s
  | .glyph4 => Sys2Proof.Machine.execGlyph4 s
  | .glyph5 => Sys2Proof.Machine.execGlyph5 s
  | .glyph6 => Sys2Proof.Machine.execGlyph6 s
  | .glyph7 => Sys2Proof.Machine.execGlyph7 s
  | .glyph8 => Sys2Proof.Machine.execGlyph8 s
  | .glyph9 => Sys2Proof.Machine.execGlyph9 s
  | .glyphUpA => Sys2Proof.Machine.execGlyphUpA s
  | .glyphUpC => Sys2Proof.Machine.execGlyphUpC s
  | .glyphUpE => Sys2Proof.Machine.execGlyphUpE s
  | .glyphUpF => Sys2Proof.Machine.execGlyphUpF s
  | .glyphUpH => Sys2Proof.Machine.execGlyphUpH s
  | .glyphUpL => Sys2Proof.Machine.execGlyphUpL s
  | .glyphUpP => Sys2Proof.Machine.execGlyphUpP s
  | .glyphUpS => Sys2Proof.Machine.execGlyphUpS s
  | .glyphUpU => Sys2Proof.Machine.execGlyphUpU s
  | .glyphLowB => Sys2Proof.Machine.execGlyphLowB s
  | .glyphLowC => Sys2Proof.Machine.execGlyphLowC s
  | .glyphLowD => Sys2Proof.Machine.execGlyphLowD s
  | .glyphLowH => Sys2Proof.Machine.execGlyphLowH s
  | .glyphLowN => Sys2Proof.Machine.execGlyphLowN s
  | .glyphLowO => Sys2Proof.Machine.execGlyphLowO s
  | .glyphLowR => Sys2Proof.Machine.execGlyphLowR s
  | .glyphLowT => Sys2Proof.Machine.execGlyphLowT s
  | .glyphLowU => Sys2Proof.Machine.execGlyphLowU s
  | .glyphLowY => Sys2Proof.Machine.execGlyphLowY s
  | .encGlyphOf c => Sys2Proof.Machine.execEncGlyphOf c s

end Sys2Proof.Machine
end

