-- ==== Sys2Proof/Machine/Schedule.lean ====
section
/-! DEFINITION. Which step goes next (00_scope.md R6, R7; 30_encoding.md R107, R108): the schedule the state holds, and where it is empty the
nominal schedule. -/
namespace Sys2Proof.Machine

/-- The MAIN step a PHASE code selects; none for a reserved code, which leaves MAIN stuck (R32, R98, R105). -/
def mainInstr (p : Phase) : Option Instr := decodeOp (p.setWidth 8)

/-- The PHASE code of a MAIN step: the number of an OP8 code of class 0b00 (R98). -/
def mainPhase (i : Instr) : Option Phase :=
  match encode i with
  | [.op8 c] => if c.toNat < 64 then some (c.setWidth 6) else none
  | _ => none

/-- The next operation of the schedule, and the state with its words taken from the schedule (R107; log 1). -/
def State.fetch (s : State) : Except DecodeErr (Instr × State) :=
  match decode s.sched with
  | .ok (i, rest) => .ok (i, { s with sched := rest })
  | .error e => .error e

/-- The handler the nominal schedule takes next, if one is enabled; R314 fixes no order between them (log 2). -/
def State.nominalIrq (s : State) : Option Instr :=
  if s.irqEnabled srcTick then some .irqTick
  else if s.irqEnabled srcBtn then some .irqBtn
  else if s.irqEnabled srcAux then some .irqAux
  else none

/-- The MAIN step the nominal schedule takes next, if it is enabled (R7). -/
def State.nominalMain (s : State) : Option Instr := if s.mainEnabled s.phase then mainInstr s.phase else none

/-- The microseconds until the pending wait of MAIN is released, if MAIN waits for one: WT to 0, or MS to the end of the window of
LedToggle (R7, R27, R236). -/
def State.waitLeft (s : State) : Option Nat :=
  if s.halt then none
  else if waitsForTimer s.phase && s.wt != 0 then some s.wt.toNat
  else if s.phase == phLedLoop && !s.ledOver then
    some ((s.cfg.ledWindowMs.toNat - s.elapsedMs) * 1000 - s.now % 1000)
  else none

/-- The microseconds until the next scripted input change, if there is one (R7). -/
def State.inputLeft (s : State) : Option Nat := s.inputs.head?.map fun e => e.1 - s.now

/-- The lesser of a bound and a number there may be. -/
def atMost (bound : Nat) : Option Nat → Nat
  | none => bound
  | some n => Nat.min n bound

/-- How far ENV advances under the nominal schedule: to the release of the pending wait, the next tick or the next scripted input
change, whichever is first (R7). -/
def State.nominalDt (s : State) : Nat :=
  atMost (atMost (s.cfg.periodUs - s.tcnt.toNat) s.waitLeft) s.inputLeft

/-- The step of the nominal schedule when no input change is due: an enabled handler, else an enabled MAIN step, else ADVANCE by the
amount of R7; none where nothing at all is enabled. -/
def State.nominalInner (s : State) : Option Instr :=
  match s.nominalIrq with
  | some i => some i
  | none =>
    match s.nominalMain with
    | some i => some i
    | none => if s.nominalDt = 0 then none else some (.advance s.nominalDt)

/-- The step of the nominal schedule (R7): an input change that is due, before everything else (log 2), else the inner choice. -/
def State.nominal (s : State) : Option (Instr × State) :=
  match s.inputs with
  | (t, e) :: rest =>
    if t ≤ s.now then some (e.instr, { s with inputs := rest }) else s.nominalInner.map fun i => (i, s)
  | [] => s.nominalInner.map fun i => (i, s)

/-- What it takes for the MAIN step of phase p to be enabled: MAIN running, PHASE at its code, and its own condition met, the wait over
or the level as it asks (R32, R49, R96; log 10). -/
def State.readyFor (s : State) (p : Phase) : State :=
  let t := { s with phase := p, halt := false }
  if waitsForTimer p then { t with wt := 0 }
  else if p == phShwDb0 || p == phShwDb2 then { t with btnN := true }
  else if p == phLedDb0 || p == phLedDb2 then { t with aux := false }
  else if p == phLedLoop then { t with aux := true, auxp := false }
  else t

/-- What it takes for an operation to be enabled, besides its words: a MAIN step ready, a source pending, the level that an event
changes (R98, R304, R310 to R312; log 10). -/
def State.selectFor (s : State) (i : Instr) : State :=
  match mainPhase i with
  | some p => s.readyFor p
  | none =>
    match i with
    | .irqTick => { s.setPending srcTick with tickMask := false }
    | .irqBtn => s.setPending srcBtn
    | .irqAux => s.setPending srcAux
    | .btnPress => { s with btnN := true }
    | .btnRelease => { s with btnN := false }
    | .auxPress => { s with aux := false }
    | .auxRelease => { s with aux := true }
    | _ => s

/-- The words of a list of operations, an encoded trace (R107). -/
def encodeTrace (is : List Instr) : List TraceWord := is.flatMap encode

/-- The twelve MAIN steps of a sweep that follow the step that loads the masks (R108). -/
def sweepTail : List Instr :=
  [.ddOn, .ddHold, .ddOff, .ddOn, .ddHold, .ddOff, .ddOn, .ddHold, .ddOff, .ddOn, .ddHold, .ddOff]

/-- RENDER_NUMBER of R108, the waits left to ENV. -/
def traceRenderNumber : List Instr := .rnSnap :: sweepTail
/-- RENDER_GLYPHS of R108, the waits left to ENV. -/
def traceRenderGlyphs : List Instr := .rgLoad :: sweepTail
/-- DARK of R108 in ShowingTime. -/
def traceShowDark : List Instr := [.shwDark, .shwDarkw]
/-- DARK of R108 in SettingTime. -/
def traceSetDark : List Instr := [.setBdark, .setBdarkw]
/-- DARK of R108 in boot. -/
def traceBootDark : List Instr := [.bootDark, .bootDarkw]
/-- DEBOUNCE_BTN of R108. -/
def traceDebounceBtn : List Instr := [.shwDb0, .shwDb1, .shwDb2]
/-- DEBOUNCE_AUX of R108. -/
def traceDebounceAux : List Instr := [.ledDb0, .ledDb1, .ledDb2]
/-- CRITICAL of R108. -/
def traceCritical : List Instr := [.setLock, .setMut, .setUnlock]
/-- TICK of R108: the tick boundary is left microseconds away. -/
def traceTick (left : Nat) : List Instr := [.advance left, .irqTick]
/-- TAP(d) of R108. -/
def traceTap (d : Nat) : List Instr := [.btnPress, .advance d, .btnRelease]
/-- BLINK_HALF of R108: n sweeps, each with its dark interval. DESIGN CHOICE (log 23): R108 lists no SET_BLINK; the name here takes in the
one that heads each sweep (R222) and the one that ends the half. It has no argument c: the steps are the same for either COLON, which
SET_HEAD and the ending SET_BLINK write. -/
def traceBlinkHalf (n : Nat) : List Instr :=
  (List.replicate n (.setBlink :: (traceRenderNumber ++ traceSetDark))).flatten ++ [.setBlink]
/-- CONTROL_CYCLE of R108 with n sweeps per half, pressed or released; its SET_BLINK steps stand in the halves (log 23). -/
def traceControlCycle (n : Nat) (pressed : Bool) : List Instr :=
  .setHead :: (traceBlinkHalf n ++ traceBlinkHalf n ++ [.setPoll] ++ (if pressed then traceCritical else []) ++ [.setAcc])

end Sys2Proof.Machine
end

