-- ==== Sys2Proof/Machine/Step.lean ====
section
/-! DEFINITION. One step: the schedule's next operation, or with an empty schedule the nominal schedule's (00_scope.md R6, R7). -/
namespace Sys2Proof.Machine

/-- A step of the nominal schedule; stuck where no agent has an enabled step (log 13). -/
def nominalStep (s : State) : Host.Outcome State Fault Refusal :=
  match s.nominal with
  | some (i, t) => exec i t
  | none => .fault .stuck

/-- One step of the machine. -/
def step (s : State) : Host.Outcome State Fault Refusal :=
  match s.sched with
  | [] => nominalStep s
  | _ :: _ =>
    match s.fetch with
    | .ok (i, t) => exec i t
    | .error e => .refused (.undecodable e)

/-- The state whose very next step fetches and runs the operation of one word of the table (log 10). -/
def State.withFetchWord (s : State) (nbits w : Nat) : State :=
  match decode (layoutWord nbits w) with
  | .ok (i, _) => { s.selectFor i with sched := layoutWord nbits w }
  | .error _ => { s with sched := layoutWord nbits w }

end Sys2Proof.Machine
end

