-- ==== Sys2Proof/Machine/Observe.lean ====
section
/-! DEFINITION. What an observer outside the hardware sees (00_scope.md R11): the output ports over NOW, the lit times and duty cycles of
a run as functions of that trace, and their nominal figures (41_display_driver.md R155, R156; 43_mode_controller.md R240). -/
namespace Sys2Proof.Machine

/-- The values of the output ports (R11). -/
structure Outputs where
  segN : SegN
  dig : BitVec 4
  colonN : Bool
  ledOut : Bool
  deriving DecidableEq, Repr

/-- The output ports of a state (R11, R54 to R56). -/
def State.outputs (s : State) : Outputs := ⟨s.segN, s.dig, s.colonN, s.ledOut⟩

/-- The output ports with nothing lit and the LED as given (R149, R151). -/
def restOutputs (led : Bool) : Outputs := ⟨segRest, digRest, true, led⟩

/-- One value of the output ports with the interval of NOW over which it stood, from `start` to `stop` (R11). An interval of no length
is a value that no time passed over, which R146 counts too. -/
structure Span where
  outputs : Outputs
  start : Nat
  stop : Nat
  deriving DecidableEq, Repr

/-- The length of an interval, in microseconds. -/
def Span.length (e : Span) : Nat := e.stop - e.start

/-- The interval that opens with a state. -/
def State.span (s : State) : Span := ⟨s.outputs, s.now, s.now⟩

/-- The output trace with one more state of the run, the latest interval first. The interval that stood reaches that state's NOW, and is
the state's own while the ports keep their value. RESET alone takes NOW back (R350): the interval it cuts keeps the end it had, the NOW
before the reset, and the next one opens at the restarted NOW. -/
def observe (trace : List Span) (s : State) : List Span :=
  match trace with
  | [] => [s.span]
  | e :: rest =>
    if s.now < e.stop then s.span :: e :: rest
    else if s.outputs = e.outputs then { e with stop := s.now } :: rest
    else s.span :: { e with stop := s.now } :: rest

/-- The output trace of the run of at most k steps from a state, added to the trace up to there: it ends at the NOW of the last state
reached. -/
def traceFrom : Nat → State → List Span → List Span
  | 0, _, trace => trace
  | k + 1, s, trace =>
    match step s with
    | .next t => traceFrom k t (observe trace t)
    | _ => trace

/-- The output trace of k steps, the latest interval first (R11). -/
def outputTrace (k : Nat) (s : State) : List Span := traceFrom k s [s.span]

/-- The time an output trace covers, its elapsed time (R11). -/
def elapsedTime (trace : List Span) : Nat := (trace.map Span.length).sum

/-- The total length of the intervals that satisfy a condition on the ports. -/
def timeWhere (p : Outputs → Bool) (trace : List Span) : Nat := elapsedTime (trace.filter fun e => p e.outputs)

/-- The bit of DIG that selects a position is 1 (R11, R55). -/
def Outputs.lit (position : Nat) (o : Outputs) : Bool := o.dig.getLsbD (position - 1)

/-- The lit time of a position: the sum of the lengths of the intervals in which its DIG bit is 1 (R11). -/
def litTime (position : Nat) (trace : List Span) : Nat := timeWhere (Outputs.lit position) trace

/-- The lit time of the display as a whole: the intervals in which any DIG bit is 1 (R155). -/
def displayLitTime (trace : List Span) : Nat := timeWhere (fun o => o.dig != 0) trace

/-- The duty cycle of a position over an output trace, lit time over elapsed time, as that pair (R11). -/
def dutyCycle (position : Nat) (trace : List Span) : Nat × Nat := (litTime position trace, elapsedTime trace)

/-- The duty cycle of the display as a whole over an output trace, as the pair lit time, elapsed time (R11, R155). -/
def displayDutyCycle (trace : List Span) : Nat × Nat := (displayLitTime trace, elapsedTime trace)

/-- S of R155: the microseconds of one sweep under the nominal schedule. -/
def sweepUs (c : Cfg) : Nat := 4 * c.dwellUs.toNat

/-- P of R155: the microseconds of one sweep and its dark interval under the nominal schedule. -/
def iterationUs (c : Cfg) : Nat := sweepUs c + c.darkUs.toNat

/-- The display's duty cycle under the nominal schedule as the pair lit time, elapsed time of one iteration (R155). -/
def nominalDisplayDuty (c : Cfg) : Nat × Nat := (sweepUs c, iterationUs c)

/-- A position's duty cycle under the nominal schedule as the pair lit time, elapsed time of one iteration (R155). -/
def nominalDuty (c : Cfg) : Nat × Nat := (c.dwellUs.toNat, iterationUs c)

/-- The refresh rate under the nominal schedule as the pair of sweeps and the microseconds they take: 10^6 / P per second (R156). -/
def refreshRate (c : Cfg) : Nat × Nat := (1000000, iterationUs c)

/-- The microseconds of one control cycle of SettingTime under the nominal schedule (R240, R374). -/
def controlCycleUs (c : Cfg) : Nat := 2 * c.blinkReps.toNat * iterationUs c

end Sys2Proof.Machine
end

