-- ==== Sys2Proof/Safety.lean ====
section
/-! DEFINITION. What counts as a good state and a safe run, in the terms the statements use: the invariants of 10_state.md R23, R31, R50,
R51, 41_display_driver.md R149, 43_mode_controller.md R201, 45_sleep_scheduler.md R282, each a clause of its own. -/
namespace Sys2Proof.Machine

/-- The five phases of the display sub-sequence (R96, R140). -/
def inSweep (p : Phase) : Bool := p == 0x30 || p == 0x31 || p == 0x32 || p == 0x33 || p == 0x34

/-- The phases in which a position is lit, DD_HOLD and DD_OFF (R149). -/
def isLit (p : Phase) : Bool := p == 0x33 || p == 0x34

/-- The phase that decides which mode MAIN is in: its own, or inside the display sub-sequence the one it returns to (R33, R201). -/
def State.owner (s : State) : Phase := if inSweep s.phase then s.ret else s.phase

/-- The phases of Sleeping and boot (R201). -/
def ownsSleeping (p : Phase) : Bool := p == 0x00 || p == 0x38 || p == 0x39 || p == 0x3A || p == 0x3B
/-- The phases of ShowingTime before its exit (R201). -/
def ownsShowing (p : Phase) : Bool :=
  p == 0x01 || p == 0x02 || p == 0x03 || p == 0x04 || p == 0x05 || p == 0x06 || p == 0x07 || p == 0x08 || p == 0x09
/-- The phases of SettingTime before its exit (R201). -/
def ownsSetting (p : Phase) : Bool :=
  p == 0x10 || p == 0x11 || p == 0x12 || p == 0x13 || p == 0x14 || p == 0x15 || p == 0x16 || p == 0x17 || p == 0x18 || p == 0x19
/-- The phases of LedToggle (R201). -/
def ownsLed (p : Phase) : Bool := p == 0x20 || p == 0x21 || p == 0x22 || p == 0x23 || p == 0x24 || p == 0x25

/-- Both the sampled configuration and the straps are well formed (R47). -/
abbrev ConfigOk (s : State) : Prop := s.cfg.wf = true ∧ s.straps.wf = true

/-- TimeOfDay is normalised (R23). -/
abbrev TimeOk (s : State) : Prop := timeOfDayOk s.cfg.mode12 s.time = true

/-- PHASE holds a defined code (R32, R105), and RET the phase the sub-sequence was entered for: RN_SNAP from ShowingTime or SettingTime,
RG_LOAD from boot (R33). -/
abbrev PhaseOk (s : State) : Prop :=
  (mainInstr s.phase).isSome = true ∧
  (s.ret = 0 ∨ s.ret = 0x06 ∨ s.ret = 0x13 ∨ s.ret = 0x3A) ∧
  (inSweep s.phase = true → s.ret ≠ 0) ∧
  (s.phase = 0x30 → s.ret ≠ 0x3A) ∧
  (s.phase = 0x31 → s.ret = 0x3A)

/-- The display at rest: every line de-energised (R54, R55). -/
abbrev AtRest (s : State) : Prop := s.segN = 0x7F ∧ s.dig = 0 ∧ s.colonN = true

/-- The rest rule (R149): at rest outside DD_HOLD and DD_OFF; in them position POS is selected and shows its mask and the colon (R143). -/
abbrev LinesOk (s : State) : Prop :=
  (isLit s.phase = false → AtRest s) ∧
  (isLit s.phase = true → s.segN = ~~~s.maskAt ∧ s.dig = onehot4 s.pos ∧ s.colonN = !s.colon)

/-- POS is 1..4 (R25). -/
abbrev PosOk (s : State) : Prop := 1 ≤ s.pos.toNat ∧ s.pos.toNat ≤ 4

/-- MODE and PHASE go together (R201); EXIT_OFF is reached from ShowingTime and SettingTime only, and LedToggle does not exist in
always-on operation (R285). -/
abbrev ModeOk (s : State) : Prop :=
  (s.mode = 0 ↔ ownsSleeping s.owner = true) ∧
  (s.mode = 2 → ownsSetting s.owner = true ∨ s.owner = 0x0A) ∧
  (ownsSetting s.owner = true → s.mode = 2) ∧
  (ownsShowing s.owner = true → s.mode = 1) ∧
  (s.mode = 3 ↔ ownsLed s.owner = true) ∧
  (s.cfg.alwaysOn = true → s.mode ≠ 3)

/-- While a mode runs the request that started it still stands (R35, R281). -/
abbrev RequestOk (s : State) : Prop :=
  (s.mode = 1 ∨ s.mode = 2 → s.showReq = true ∨ s.cfg.alwaysOn = true) ∧ (s.mode = 3 → s.ledReq = true)

/-- HALT only at SLP_EVAL (R282), and never in always-on operation (R285). -/
abbrev HaltOk (s : State) : Prop := s.halt = true → s.phase = 0x00 ∧ s.cfg.alwaysOn = false

/-- TICK_MASK is 1 exactly inside the bracket, from SET_LOCK to SET_UNLOCK (R37, R81). -/
abbrev MaskOk (s : State) : Prop := s.tickMask = (s.phase == 0x17 || s.phase == 0x18)

/-- The LED is on in the display window and all through SettingTime (R210, R220, R241). -/
abbrev LedOk (s : State) : Prop :=
  s.mode = 2 ∨ s.owner = 0x05 ∨ s.owner = 0x06 ∨ s.owner = 0x07 ∨ s.owner = 0x08 ∨ s.owner = 0x09 ∨ s.owner = 0x0A →
    s.led = true

/-- MS counts the milliseconds of NOW (R50), TCNT stays below the period (R51), WT holds at most the longest wait (R31). -/
abbrev TimersOk (s : State) : Prop :=
  s.ms = BitVec.ofNat 32 (s.now / 1000) ∧ s.tcnt.toNat < s.cfg.periodUs ∧ s.wt.toNat ≤ 65535 * 1000

/-- MAIN is inside a blink half of SettingTime, between SET_BLINK's jump to the sweep and SET_BDARKW (R222 to R224). -/
def State.inBlink (s : State) : Bool := s.owner == 0x13 || s.owner == 0x14

/-- MAIN is inside a control cycle of SettingTime, after SET_HEAD (R221). -/
def State.inCycle (s : State) : Bool := ownsSetting s.owner && s.owner != 0x10 && s.owner != 0x11

/-- MAIN is showing a boot frame (R356). -/
def State.inFrame (s : State) : Bool := s.owner == 0x39 || s.owner == 0x3A || s.owner == 0x3B

/-- The counters stay in the bounds of R31. -/
abbrev CountersOk (s : State) : Prop :=
  s.hold.toNat ≤ s.cfg.accelCycles.toNat ∧
  s.rep.toNat ≤ s.cfg.blinkReps.toNat ∧
  (s.inBlink = true → s.rep.toNat < s.cfg.blinkReps.toNat) ∧
  s.idle.toNat < s.cfg.setIdleMs.toNat + s.cfg.setCycleMs.toNat ∧
  (s.inCycle = true → s.idle.toNat < s.cfg.setIdleMs.toNat) ∧
  s.bi.toNat ≤ s.cfg.bootScript.length ∧
  (s.inFrame = true → s.bi.toNat < s.cfg.bootScript.length)

/-- The invariant of the machine: every clause above. -/
abbrev Inv (s : State) : Prop :=
  ConfigOk s ∧ TimeOk s ∧ PhaseOk s ∧ LinesOk s ∧ PosOk s ∧ ModeOk s ∧ RequestOk s ∧ HaltOk s ∧ MaskOk s ∧ LedOk s ∧
    TimersOk s ∧ CountersOk s

/-- No tick has been lost, the premise of a claim about a run (R12, R302). -/
abbrev NoTickLost (s : State) : Prop := s.tickOverrun = false

/-- MAIN runs and stands at phase p: the conditions every MAIN step has in common (R32, R49). -/
abbrev MainAt (p : Phase) (s : State) : Prop := s.halt = false ∧ s.phase = p

/-- The mask a numeral shows, the rows 0 to 9 of R122; nothing for any other number. -/
def numeral (n : Nat) : Mask := [0x3F, 0x06, 0x5B, 0x4F, 0x66, 0x6D, 0x7D, 0x07, 0x7F, 0x6F].getD n 0

/-- A list of steps one after another. -/
def execAll : List Instr → State → Result
  | [], s => .next s
  | i :: is, s =>
    match exec i s with
    | .next t => execAll is t
    | .fault f => .fault f
    | .refused e => .refused e

end Sys2Proof.Machine
end

