-- ==== Sys2Proof/Certificates/Slice0/Obligations.lean ====
section
/-! DEFINITION. The statements for the provers, one definition each; OBLIGATIONS.json lists them. A statement of a result gives the next
state as the old one with the registers the rule writes, so it says the frame too: every register, flag, port and table it does not
name is unchanged. -/
open Sys2Proof Sys2Proof.Machine

/-! ## Encoding, decoding, the schedule -/

/-- The decoder reads exactly the words the encoder writes, and leaves the words after them (R98, R107): no word list decodes to an operation
it does not encode, and every well-formed operation decodes from its words, as ADVANCE does with any dt at all. Symbols as trace words of
their own formats, the constructor for a character code without a row, and the well-formedness that leaves every glyph symbol one
spelling are the model's choice (log 9), and so is an operand of ADVANCE without a width (log 15). -/
def Obligations.DecodeExactlyInvertsEncode : Prop :=
  ∀ (ws rest : List TraceWord) (i : Instr),
    decode ws = .ok (i, rest) ↔ ws = encode i ++ rest ∧ (i.wf = true ∨ ∃ dt, i = .advance dt)

/-- The decoder over OP8 is total: the codes of R103 and R96 other than ADVANCE's name an operation, and a step refuses every other
one by name (R98, R105). -/
def Obligations.ReservedCodesAreRefused : Prop :=
  ∀ c : OpCode, c ≠ 0x80 →
    let n := c.toNat
    let listed := n ≤ 0x0A ∨ (0x10 ≤ n ∧ n ≤ 0x19) ∨ (0x20 ≤ n ∧ n ≤ 0x25) ∨ (0x30 ≤ n ∧ n ≤ 0x34) ∨ (0x38 ≤ n ∧ n ≤ 0x3B) ∨
      (0x40 ≤ n ∧ n ≤ 0x42) ∨ (0x81 ≤ n ∧ n ≤ 0x86) ∨ (0xC0 ≤ n ∧ n ≤ 0xC8)
    (listed → ∃ i, ∀ rest, decode (.op8 c :: rest) = .ok (i, rest)) ∧
      (¬ listed → ∀ (s : State) (rest : List TraceWord), s.sched = .op8 c :: rest →
        step s = .refused (.undecodable (.reservedOp c)))

/-- A few words written out from the table decode to the operations they stand for (R96, R98, R103, R122, R124). That a symbol's code is a
trace word of its own format, and that a character code without a row decodes to a constructor of the model's own, here 0x61 to
encGlyphOf 0x61, are the model's choice (log 9). -/
def Obligations.RowWordsDecode : Prop :=
  (∀ e ∈ ([(0x00, .slpEval), (0x0A, .exitOff), (0x17, .setMut), (0x24, .ledLoop), (0x33, .ddHold), (0x38, .bootHead),
      (0x41, .irqBtn), (0x85, .reset), (0xC4, .normalize)] : List (OpCode × Instr)),
    decode [.op8 e.1] = .ok (e.2, [])) ∧
  decode [.op8 0x80, .dt 2000, .op8 0x33] = .ok (.advance 2000, [.op8 0x33]) ∧
  decode [.dsym4 0x7] = .ok (.digit7, []) ∧
  decode [.gsym8 0x48] = .ok (.glyphUpH, []) ∧
  decode [.gsym8 0x61] = .ok (.encGlyphOf 0x61, [])

/-- A step runs the decoded operation: when the schedule begins with the words of a well-formed operation, the step is that operation
on the state whose schedule has moved past those words (R98, R107; the schedule as data is the model's choice, log 1). -/
def Obligations.StepRunsDecodedOperation : Prop :=
  ∀ (s : State) (i : Instr) (rest : List TraceWord), i.wf = true → s.sched = encode i ++ rest →
    step s = exec i { s with sched := rest }

/-- With an empty schedule and no input change due, the step is the nominal schedule's (R7): an enabled handler goes before MAIN, MAIN's
enabled step before time, and time advances by exactly the amount that reaches the first of the next tick, the release of MAIN's
pending wait and the next scripted input change. A pending wait is WT running out or, in LED_LOOP, the millisecond at which its window
is over. The order of the three handlers is the model's choice (log 2). -/
def Obligations.NominalScheduleOrder : Prop :=
  ∀ s : State, s.sched = [] → (∀ e ∈ s.inputs.head?, s.now < e.1) →
    let passed := (s.ms.toNat + 2 ^ 32 - s.t0.toNat) % 2 ^ 32
    let ends : List Nat := [s.now + (s.cfg.periodUs - s.tcnt.toNat)] ++
      (if s.halt = false ∧ waitsForTimer s.phase = true then [s.now + s.wt.toNat] else []) ++
      (if s.halt = false ∧ s.phase = 0x24 then [(s.now / 1000 + (s.cfg.ledWindowMs.toNat - passed)) * 1000] else []) ++
      (s.inputs.take 1).map (·.1)
    (s.irqEnabled 0 = true → step s = exec .irqTick s) ∧
    (s.irqEnabled 0 = false → s.irqEnabled 1 = true → step s = exec .irqBtn s) ∧
    (s.irqEnabled 0 = false → s.irqEnabled 1 = false → s.irqEnabled 2 = true → step s = exec .irqAux s) ∧
    (s.irqEnabled 0 = false → s.irqEnabled 1 = false → s.irqEnabled 2 = false →
      (∀ i, mainInstr s.phase = some i → s.mainEnabled s.phase = true → step s = exec i s) ∧
      (s.mainEnabled s.phase = false → s.tcnt.toNat < s.cfg.periodUs →
        ∃ dt, 1 ≤ dt ∧ step s = exec (.advance dt) s ∧ s.now + dt ∈ ends ∧ ∀ e ∈ ends, s.now + dt ≤ e))

/-! ## The Clock Engine -/

/-- NORMALIZE's result is in range (R172). -/
def Obligations.NormalizeResultInRange : Prop :=
  ∀ (t : Time) (mode12 : Bool),
    (normalize t mode12).s < 60 ∧ (normalize t mode12).m < 60 ∧
      (mode12 = true → 1 ≤ (normalize t mode12).h ∧ (normalize t mode12).h ≤ 12) ∧
      (mode12 = false → (normalize t mode12).h ≤ 23)

/-- NORMALIZE fixes every time in its range, and so is idempotent on every time (R173). -/
def Obligations.NormalizeIsIdempotent : Prop :=
  ∀ (t : Time) (mode12 : Bool),
    (t.s < 60 → t.m < 60 → (if mode12 = true then 1 ≤ t.h ∧ t.h ≤ 12 else t.h ≤ 23) → normalize t mode12 = t) ∧
      normalize (normalize t mode12) mode12 = normalize t mode12

/-- NORMALIZE keeps the time modulo the hour cycle, however many periods have accumulated (R174). -/
def Obligations.NormalizePreservesTheTime : Prop :=
  ∀ (t : Time) (mode12 : Bool),
    secondsOf (normalize t mode12) % cycleSeconds mode12 = secondsOf t % cycleSeconds mode12

/-- A tick adds its period, an increment one minute, and a jump goes to the ten below plus ten, all modulo the hour cycle (R174 to
R177). -/
def Obligations.TransitionsMoveTheTime : Prop :=
  ∀ (c : Cfg) (t : Time),
    secondsOf (tickFn c t) % cycleSeconds c.mode12 = (secondsOf t + c.tickPeriodS.toNat) % cycleSeconds c.mode12 ∧
    secondsOf (incFn c t) % cycleSeconds c.mode12 = (secondsOf t + 60) % cycleSeconds c.mode12 ∧
    secondsOf (jumpFn c t) % cycleSeconds c.mode12 =
      (t.h * 3600 + (t.m / 10 * 10 + 10) * 60 + t.s) % cycleSeconds c.mode12

/-- TICK_FN and INC_FN commute; TICK_FN and JUMP_FN do not, and from (55, 9, 1) with period 8 the two orders give (3, 20, 1) and
(3, 11, 1) (R180). -/
def Obligations.TickCommutesWithIncrementNotJump : Prop :=
  (∀ (c : Cfg) (t : Time), tickFn c (incFn c t) = incFn c (tickFn c t)) ∧
  (∀ c : Cfg, c.tickPeriodS = 8 →
    jumpFn c (tickFn c ⟨55, 9, 1⟩) = ⟨3, 20, 1⟩ ∧ tickFn c (jumpFn c ⟨55, 9, 1⟩) = ⟨3, 11, 1⟩)

/-- The four functions of the Clock Engine as steps: the formulas of R170, R171, R175 to R177 on the function's wires, and no register
written. That they are steps with wires is the model's choice (log 8). -/
def Obligations.ClockFunctionSteps : Prop :=
  ∀ s : State,
    let wrap := fun h1 : Nat => fun mode12 : Bool => if mode12 then (h1 + 11) % 12 + 1 else h1 % 24
    let norm := fun (a m h : Nat) (mode12 : Bool) =>
      (⟨a % 60, (m + a / 60) % 60, wrap (h + (m + a / 60) / 60) mode12⟩ : Time)
    exec .normalize s =
      .next { s with fn := { s.fn with time := norm s.fn.time.s s.fn.time.m s.fn.time.h s.fn.mode12 } } ∧
    exec .tickFn s = .next { s with fn := { s.fn with
      time := norm (s.sec.toNat + s.cfg.tickPeriodS.toNat) s.min.toNat s.hr.toNat s.cfg.mode12 } } ∧
    exec .incFn s = .next { s with fn := { s.fn with
      time := norm s.sec.toNat (s.min.toNat + 1) s.hr.toNat s.cfg.mode12 } } ∧
    exec .jumpFn s = .next { s with fn := { s.fn with
      time := norm s.sec.toNat (s.min.toNat / 10 * 10 + 10) s.hr.toNat s.cfg.mode12 } }

/-! ## The Segment Encoder and the number formats -/

/-- ENC_DIGIT, ENC_GLYPH and DRIVE_SEG as steps: the digit table of R122, the glyph table of the configuration with 0x00 where it
defines nothing (R72, R123), the complement (R125); no register written. That they are steps with wires is the model's choice
(log 8). -/
def Obligations.SegmentEncoderSteps : Prop :=
  ∀ s : State,
    exec .encDigit s = .next { s with fn := { s.fn with mask := numeral s.fn.dsym.toNat } } ∧
    (∀ w, (s.fn.gsym.toNat, w) ∈ s.cfg.glyphTable → Memory.wf s.cfg.glyphTable = true →
      exec .encGlyph s = .next { s with fn := { s.fn with mask := w } }) ∧
    ((∀ w, (s.fn.gsym.toNat, w) ∉ s.cfg.glyphTable) →
      exec .encGlyph s = .next { s with fn := { s.fn with mask := 0 } }) ∧
    exec .driveSeg s = .next { s with fn := { s.fn with segn := ~~~s.fn.mask } }

/-- BCD4 as a step: for a value up to 9999 four decimal digits that make it up, thousands first (R101); a value above is refused
(R104). That it is a step with wires is the model's choice (log 8). -/
def Obligations.Bcd4SplitsTheValue : Prop :=
  ∀ s : State,
    (s.fn.value.toNat ≤ 9999 →
      ∃ a b c d : DSym, exec .bcd4 s = .next { s with fn := { s.fn with d1 := a, d2 := b, d3 := c, d4 := d } } ∧
        a.toNat ≤ 9 ∧ b.toNat ≤ 9 ∧ c.toNat ≤ 9 ∧ d.toNat ≤ 9 ∧
        a.toNat * 1000 + b.toNat * 100 + c.toNat * 10 + d.toNat = s.fn.value.toNat) ∧
    (9999 < s.fn.value.toNat → exec .bcd4 s = .refused .valueTooLarge)

/-- TIMEVALUE as a step: HR x 100 + MIN, which fits VAL14 whatever the registers hold, and is at most 2359 for a normalised time
(R100). That it is a step with wires is the model's choice (log 8). -/
def Obligations.TimevalueIsHoursTimesHundred : Prop :=
  ∀ s : State, ∃ v : Val14, exec .timevalue s = .next { s with fn := { s.fn with value := v } } ∧
    v.toNat = s.hr.toNat * 100 + s.min.toNat ∧ (TimeOk s → v.toNat ≤ 2359)

/-- The sixteen digit rows of the table: each symbol offered to the encoder gives its row's mask and SEG_N value (R122). What a symbol
row does as a step is the model's choice (log 9). -/
def Obligations.DigitSymbolRows : Prop :=
  ∀ (s : State), ∀ e ∈
    ([(.digit0, 0x0, 0x3F, 0x40), (.digit1, 0x1, 0x06, 0x79), (.digit2, 0x2, 0x5B, 0x24), (.digit3, 0x3, 0x4F, 0x30),
      (.digit4, 0x4, 0x66, 0x19), (.digit5, 0x5, 0x6D, 0x12), (.digit6, 0x6, 0x7D, 0x02), (.digit7, 0x7, 0x07, 0x78),
      (.digit8, 0x8, 0x7F, 0x00), (.digit9, 0x9, 0x6F, 0x10), (.blank, 0xA, 0x00, 0x7F), (.undef11, 0xB, 0x00, 0x7F),
      (.undef12, 0xC, 0x00, 0x7F), (.undef13, 0xD, 0x00, 0x7F), (.undef14, 0xE, 0x00, 0x7F), (.undef15, 0xF, 0x00, 0x7F)] : List (Instr × DSym × Mask × SegN)),
    exec e.1 s = .next { s with fn := { s.fn with dsym := e.2.1, mask := e.2.2.1, segn := e.2.2.2 } }

/-- The thirty-one glyph rows of the table and every other character code: each character offered to the encoder gives what the
configuration's glyph table holds at its code, 0x00 where it defines nothing, and with the reference table a row gives its mask and
SEG_N value (R104, R123, R124). What a symbol does as a step is the model's choice (log 9). -/
def Obligations.GlyphSymbolRows : Prop :=
  ∀ s : State, (∀ e ∈
    ([(.glyphSpace, 0x20, 0x00, 0x7F), (.glyphMinus, 0x2D, 0x40, 0x3F), (.glyph0, 0x30, 0x3F, 0x40), (.glyph1, 0x31, 0x06, 0x79),
      (.glyph2, 0x32, 0x5B, 0x24), (.glyph3, 0x33, 0x4F, 0x30), (.glyph4, 0x34, 0x66, 0x19), (.glyph5, 0x35, 0x6D, 0x12),
      (.glyph6, 0x36, 0x7D, 0x02), (.glyph7, 0x37, 0x07, 0x78), (.glyph8, 0x38, 0x7F, 0x00), (.glyph9, 0x39, 0x6F, 0x10),
      (.glyphUpA, 0x41, 0x77, 0x08), (.glyphUpC, 0x43, 0x39, 0x46), (.glyphUpE, 0x45, 0x79, 0x06), (.glyphUpF, 0x46, 0x71, 0x0E),
      (.glyphUpH, 0x48, 0x76, 0x09), (.glyphUpL, 0x4C, 0x38, 0x47), (.glyphUpP, 0x50, 0x73, 0x0C), (.glyphUpS, 0x53, 0x6D, 0x12),
      (.glyphUpU, 0x55, 0x3E, 0x41), (.glyphLowB, 0x62, 0x7C, 0x03), (.glyphLowC, 0x63, 0x58, 0x27), (.glyphLowD, 0x64, 0x5E, 0x21),
      (.glyphLowH, 0x68, 0x74, 0x0B), (.glyphLowN, 0x6E, 0x54, 0x2B), (.glyphLowO, 0x6F, 0x5C, 0x23), (.glyphLowR, 0x72, 0x50, 0x2F),
      (.glyphLowT, 0x74, 0x78, 0x07), (.glyphLowU, 0x75, 0x1C, 0x63), (.glyphLowY, 0x79, 0x6E, 0x11)] : List (Instr × GSym × Mask × SegN)),
    exec e.1 s = .next { s with fn := { s.fn with
      gsym := e.2.1, mask := Memory.read s.cfg.glyphTable e.2.1.toNat, segn := ~~~Memory.read s.cfg.glyphTable e.2.1.toNat } } ∧
    (s.cfg.glyphTable = referenceGlyphs →
      exec e.1 s = .next { s with fn := { s.fn with gsym := e.2.1, mask := e.2.2.1, segn := e.2.2.2 } })) ∧
    ∀ c : GSym,
      exec (.encGlyphOf c) s = .next { s with fn := { s.fn with
        gsym := c, mask := Memory.read s.cfg.glyphTable c.toNat, segn := ~~~Memory.read s.cfg.glyphTable c.toNat } } ∧
      ((∀ w, (c.toNat, w) ∉ s.cfg.glyphTable) →
        exec (.encGlyphOf c) s = .next { s with fn := { s.fn with gsym := c, mask := 0x00, segn := 0x7F } })

/-- RENDER_NUMBER with an explicit operand (R142): COLON as asked, the masks of the four decimal digits most significant first, position
1 blank for a value below 1000 (R147), POS at 1; a value above 9999 is refused (R104). That it loads the sweep from any PHASE, halted or
not, and leaves RET as the caller wrote it is the model's choice (log 22). -/
def Obligations.RenderNumberShowsItsOperand : Prop :=
  ∀ (s : State) (v : Val14) (showColon : Bool),
    (v.toNat ≤ 9999 → renderNumber v showColon s = .next { s with
      colon := showColon, m1 := if v.toNat < 1000 then 0 else numeral (v.toNat / 1000), m2 := numeral (v.toNat / 100 % 10),
      m3 := numeral (v.toNat / 10 % 10), m4 := numeral (v.toNat % 10), pos := 1, phase := 0x32 }) ∧
    (9999 < v.toNat → renderNumber v showColon s = .refused .valueTooLarge)

/-! ## The Display Driver -/

/-- RN_SNAP (R141): the masks of HR x 100 + MIN, position 1 blank below 1000, POS at 1, DD_ON next. -/
def Obligations.RnSnapLoadsTheTime : Prop :=
  ∀ s : State, MainAt 0x30 s →
    let v := s.hr.toNat * 100 + s.min.toNat
    exec .rnSnap s = .next { s with
      m1 := if v < 1000 then 0 else numeral (v / 1000), m2 := numeral (v / 100 % 10), m3 := numeral (v / 10 % 10),
      m4 := numeral (v % 10), pos := 1, phase := 0x32 }

/-- RG_LOAD (R150): the glyph table's masks of the four characters of TXT, the first from its top byte, no colon, no suppression. -/
def Obligations.RgLoadLoadsTheText : Prop :=
  ∀ s : State, MainAt 0x31 s →
    exec .rgLoad s = .next { s with
      m1 := Memory.read s.cfg.glyphTable (s.txt.toNat / 2 ^ 24), m2 := Memory.read s.cfg.glyphTable (s.txt.toNat / 2 ^ 16 % 256),
      m3 := Memory.read s.cfg.glyphTable (s.txt.toNat / 2 ^ 8 % 256), m4 := Memory.read s.cfg.glyphTable (s.txt.toNat % 256),
      colon := false, pos := 1, phase := 0x32 }

/-- DD_ON (R143): position POS selected with the complement of its mask, the colon if the sweep shows it, the dwell loaded, DD_HOLD
next. For a POS that no run reaches the step is taken too, with a segment pattern and a selection nothing constrains (log 11). -/
def Obligations.DdOnLightsThePosition : Prop :=
  ∀ s : State, MainAt 0x32 s →
    (∃ (g : SegN) (d : BitVec 4), exec .ddOn s = .next { s with
      segN := g, dig := d, colonN := !s.colon, wt := s.cfg.dwellUs.setWidth 32, phase := 0x33 }) ∧
    (∀ e ∈ ([(1, s.m1, 0b0001), (2, s.m2, 0b0010), (3, s.m3, 0b0100), (4, s.m4, 0b1000)] : List (BitVec 3 × Mask × BitVec 4)),
      s.pos = e.1 → exec .ddOn s = .next { s with
        segN := ~~~e.2.1, dig := e.2.2, colonN := !s.colon, wt := s.cfg.dwellUs.setWidth 32, phase := 0x33 })

/-- DD_OFF (R145): every line at rest, then the next position, or from position 4 the return through RET. -/
def Obligations.DdOffRestsAndMovesOn : Prop :=
  ∀ s : State, MainAt 0x34 s →
    (s.pos.toNat < 4 → ∃ p : BitVec 3, p.toNat = s.pos.toNat + 1 ∧ exec .ddOff s = .next { s with
      segN := 0x7F, dig := 0, colonN := true, pos := p, phase := 0x32 }) ∧
    (4 ≤ s.pos.toNat → exec .ddOff s = .next { s with segN := 0x7F, dig := 0, colonN := true, phase := s.ret })

/-- The steps that wait for WT and then only move on: SHW_DB1, SHW_DARKW, LED_DB1, DD_HOLD, BOOT_DARKW (R144, R213, R262, R265, R358).
With WT at 0 each goes to its successor and changes nothing else; before, MAIN is held and nothing changes. -/
def Obligations.TimedWaitsHoldThenMoveOn : Prop :=
  ∀ (s : State), ∀ e ∈ ([(.shwDb1, 0x02, 0x03), (.shwDarkw, 0x07, 0x08), (.ledDb1, 0x21, 0x22), (.ddHold, 0x33, 0x34),
      (.bootDarkw, 0x3B, 0x39)] : List (Instr × Phase × Phase)), MainAt e.2.1 s →
    (s.wt = 0 → exec e.1 s = .next { s with phase := e.2.2 }) ∧ (s.wt ≠ 0 → exec e.1 s = .next s)

/-- The steps that start a dark interval: SHW_DARK, SET_BDARK, BOOT_DARK (R212, R223, R357). -/
def Obligations.DarkStepsLoadTheInterval : Prop :=
  ∀ (s : State), ∀ e ∈ ([(.shwDark, 0x06, 0x07), (.setBdark, 0x13, 0x14), (.bootDark, 0x3A, 0x3B)] :
      List (Instr × Phase × Phase)), MainAt e.2.1 s →
    exec e.1 s = .next { s with wt := s.cfg.darkUs.setWidth 32, phase := e.2.2 }

/-- One sweep under the nominal schedule (R146): entered at RN_SNAP or RG_LOAD with no handler enabled, no scripted input and the next tick
far enough off, seventeen steps later it has returned through RET with the display at rest, exactly four dwells later. After step
4p - 2 position p is lit with the complement of its mask and the colon of a RENDER_NUMBER that shows it; after step 4p + 1, its DD_OFF,
every line is at rest. Entered at rest, its output trace is for each position an interval of one dwell with the position lit and one
with all lines at rest, and each position's duty cycle over the sweep is one dwell in four (R11). The tick's distance and the empty
script are premises of the schedule. -/
def Obligations.SweepLastsFourDwells : Prop :=
  ∀ s : State, MainAt 0x30 s ∨ MainAt 0x31 s → s.sched = [] → s.inputs = [] → s.cfg.dwellUs ≠ 0 →
    s.irqEnabled 0 = false → s.irqEnabled 1 = false → s.irqEnabled 2 = false →
    s.tcnt.toNat + 4 * s.cfg.dwellUs.toNat < s.cfg.periodUs → s.cfg.periodUs < 2 ^ 28 →
    let d := s.cfg.dwellUs.toNat
    let n := s.now
    let lit := fun (m : Mask) (p : Nat) =>
      (⟨~~~m, BitVec.ofNat 4 (2 ^ (p - 1)), !(s.colon && s.phase == 0x30), s.led⟩ : Outputs)
    let rest : Outputs := ⟨0x7F, 0, true, s.led⟩
    (∃ t, core.run 17 s = .next t ∧ t.now = n + 4 * d ∧ t.phase = s.ret ∧ AtRest t ∧ t.led = s.led ∧
      (AtRest s → outputTrace 17 s =
          [⟨rest, n + 4 * d, n + 4 * d⟩, ⟨lit t.m4 4, n + 3 * d, n + 4 * d⟩, ⟨rest, n + 3 * d, n + 3 * d⟩,
           ⟨lit t.m3 3, n + 2 * d, n + 3 * d⟩, ⟨rest, n + 2 * d, n + 2 * d⟩, ⟨lit t.m2 2, n + d, n + 2 * d⟩,
           ⟨rest, n + d, n + d⟩, ⟨lit t.m1 1, n, n + d⟩, ⟨rest, n, n⟩] ∧
        ∀ p ∈ ([1, 2, 3, 4] : List Nat), dutyCycle p (outputTrace 17 s) = (d, 4 * d))) ∧
    ∀ p ∈ ([1, 2, 3, 4] : List Nat), ∃ t u, core.run (4 * p - 2) s = .next t ∧
      t.now = n + (p - 1) * d ∧ t.pos.toNat = p ∧ t.outputs = lit t.maskAt p ∧
      core.run (4 * p + 1) s = .next u ∧ u.now = n + p * d ∧ u.outputs = rest

/-! ## Sleep and debounce -/

/-- SLP_EVAL (R281): to ShowingTime when asked for or always on, else to LedToggle when asked for, else halt; the request flags stay. -/
def Obligations.SlpEvalDispatchesOrHalts : Prop :=
  ∀ s : State, MainAt 0x00 s →
    (s.cfg.alwaysOn = true ∨ s.showReq = true → exec .slpEval s = .next { s with mode := 1, phase := 0x01 }) ∧
    (s.cfg.alwaysOn = false → s.showReq = false → s.ledReq = true →
      exec .slpEval s = .next { s with mode := 3, phase := 0x20 }) ∧
    (s.cfg.alwaysOn = false → s.showReq = false → s.ledReq = false → exec .slpEval s = .next { s with halt := true })

/-- A MAIN step named while MAIN is halted or stands at another phase is not taken: nothing changes (R32, R49, R98; that it is held and
not refused is the model's choice, log 3). -/
def Obligations.MainStepsHeldElsewhere : Prop :=
  ∀ (s : State) (i : Instr) (p : Phase), mainPhase i = some p → s.halt = true ∨ s.phase ≠ p → exec i s = .next s

/-- The waits for release: SHW_DB0 and SHW_DB2 on the button, LED_DB0 and LED_DB2 on AUX; the first of each loads the settle delay
(R261, R263, R264, R266). While the input is pressed MAIN is held and nothing changes. -/
def Obligations.ReleaseWaitsDebounce : Prop :=
  ∀ s : State,
    (MainAt 0x01 s → (s.btnN = false → exec .shwDb0 s = .next s) ∧ (s.btnN = true → ∃ w : BitVec 32,
      w.toNat = s.cfg.settleMs.toNat * 1000 ∧ exec .shwDb0 s = .next { s with wt := w, phase := 0x02 })) ∧
    (MainAt 0x03 s → (s.btnN = false → exec .shwDb2 s = .next s) ∧
      (s.btnN = true → exec .shwDb2 s = .next { s with phase := 0x04 })) ∧
    (MainAt 0x20 s → (s.aux = true → exec .ledDb0 s = .next s) ∧ (s.aux = false → ∃ w : BitVec 32,
      w.toNat = s.cfg.auxSettleMs.toNat * 1000 ∧ exec .ledDb0 s = .next { s with wt := w, phase := 0x21 })) ∧
    (MainAt 0x22 s → (s.aux = true → exec .ledDb2 s = .next s) ∧
      (s.aux = false → exec .ledDb2 s = .next { s with phase := 0x23 }))

/-! ## The Mode Controller -/

/-- The steps that start a window: SHW_BEGIN turns the LED on and forgets HIT (R210); LED_BEGIN toggles the LED and forgets AUXP (R235);
both take T0 from MS. -/
def Obligations.WindowsStartAtMs : Prop :=
  ∀ s : State,
    (MainAt 0x04 s → exec .shwBegin s = .next { s with led := true, t0 := s.ms, hit := false, phase := 0x05 }) ∧
    (MainAt 0x23 s → exec .ledBegin s = .next { s with led := !s.led, t0 := s.ms, auxp := false, phase := 0x24 })

/-- SHW_HEAD (R211): one more sweep with the colon while fewer than CFG.SHOW_MS milliseconds have passed modulo 2^32, else expiry. -/
def Obligations.ShwHeadSweepsOrExpires : Prop :=
  ∀ s : State, MainAt 0x05 s →
    let passed := (s.ms.toNat + 2 ^ 32 - s.t0.toNat) % 2 ^ 32
    (passed < s.cfg.showMs.toNat → exec .shwHead s = .next { s with colon := true, ret := 0x06, phase := 0x30 }) ∧
    (s.cfg.showMs.toNat ≤ passed → exec .shwHead s = .next { s with phase := 0x09 })

/-- SHW_POLL and SHW_EXPIRE (R214, R215): a press is remembered, a release after one leaves early; at expiry a button still held starts
SettingTime. -/
def Obligations.ShowingTimeSamplesTheButton : Prop :=
  ∀ s : State,
    (MainAt 0x08 s →
      (s.btnN = false → exec .shwPoll s = .next { s with hit := true, phase := 0x05 }) ∧
      (s.btnN = true → s.hit = true → exec .shwPoll s = .next { s with phase := 0x0A }) ∧
      (s.btnN = true → s.hit = false → exec .shwPoll s = .next { s with phase := 0x05 })) ∧
    (MainAt 0x09 s →
      (s.btnN = false → exec .shwExpire s = .next { s with mode := 2, phase := 0x10 }) ∧
      (s.btnN = true → exec .shwExpire s = .next { s with phase := 0x0A }))

/-- EXIT_OFF and LED_EXIT (R216, R237): back to Sleeping with both requests cleared; EXIT_OFF turns the LED off and clears HIT, LED_EXIT
leaves the LED as it is; neither touches IP. -/
def Obligations.ExitsReturnToSleeping : Prop :=
  ∀ s : State,
    (MainAt 0x0A s → exec .exitOff s = .next { s with
      led := false, showReq := false, ledReq := false, hit := false, mode := 0, phase := 0x00 }) ∧
    (MainAt 0x25 s → exec .ledExit s = .next { s with showReq := false, ledReq := false, mode := 0, phase := 0x00 })

/-- SET_BEGIN and SET_HEAD (R220, R221): the counters cleared; then a control cycle while IDLE is below the threshold, else the exit. -/
def Obligations.SettingTimeHeads : Prop :=
  ∀ s : State,
    (MainAt 0x10 s → exec .setBegin s = .next { s with hold := 0, idle := 0, phase := 0x11 }) ∧
    (MainAt 0x11 s →
      (s.idle.toNat < s.cfg.setIdleMs.toNat → exec .setHead s = .next { s with rep := 0, colon := true, phase := 0x12 }) ∧
      (s.cfg.setIdleMs.toNat ≤ s.idle.toNat → exec .setHead s = .next { s with phase := 0x0A }))

/-- SET_BLINK (R222): one more sweep of this half, else the second half, else the sample. -/
def Obligations.SetBlinkRunsTwoHalves : Prop :=
  ∀ s : State, MainAt 0x12 s →
    (s.rep.toNat < s.cfg.blinkReps.toNat → exec .setBlink s = .next { s with ret := 0x13, phase := 0x30 }) ∧
    (s.cfg.blinkReps.toNat ≤ s.rep.toNat → s.colon = true → exec .setBlink s = .next { s with colon := false, rep := 0 }) ∧
    (s.cfg.blinkReps.toNat ≤ s.rep.toNat → s.colon = false → exec .setBlink s = .next { s with phase := 0x15 })

/-- SET_BDARKW and SET_ACC (R224, R234): REP and IDLE count on, where the register holds the sum, as it does in every state the
invariant admits (R31); SET_BDARKW waits for WT first. -/
def Obligations.SettingTimeCountsOn : Prop :=
  ∀ s : State,
    (MainAt 0x14 s → (s.wt ≠ 0 → exec .setBdarkw s = .next s) ∧ (s.wt = 0 → s.rep.toNat < 15 → ∃ r : BitVec 4,
      r.toNat = s.rep.toNat + 1 ∧ exec .setBdarkw s = .next { s with rep := r, phase := 0x12 })) ∧
    (MainAt 0x19 s → s.idle.toNat + s.cfg.setCycleMs.toNat < 2 ^ 17 → ∃ d : BitVec 17,
      d.toNat = s.idle.toNat + s.cfg.setCycleMs.toNat ∧ exec .setAcc s = .next { s with idle := d, phase := 0x11 })

/-- SET_POLL (R225): a pressed sample clears IDLE and counts HOLD, saturating at CFG.ACCEL_CYCLES, and goes to the bracket; a released
one clears HOLD and skips it. -/
def Obligations.SetPollCountsTheHold : Prop :=
  ∀ s : State, MainAt 0x15 s →
    (s.btnN = false → ∃ h : BitVec 4, h.toNat = Nat.min (s.hold.toNat + 1) s.cfg.accelCycles.toNat ∧
      exec .setPoll s = .next { s with idle := 0, hold := h, phase := 0x16 }) ∧
    (s.btnN = true → exec .setPoll s = .next { s with hold := 0, phase := 0x19 })

/-- SET_LOCK and SET_UNLOCK (R231, R233): the bracket opens and closes TICK_MASK. -/
def Obligations.BracketMasksTheTick : Prop :=
  ∀ s : State,
    (MainAt 0x16 s → exec .setLock s = .next { s with tickMask := true, phase := 0x17 }) ∧
    (MainAt 0x18 s → exec .setUnlock s = .next { s with tickMask := false, phase := 0x19 })

/-- SET_MUT (R232): the minute the mutation aims at is one above below the threshold, and the ten below plus ten at it; NORMALIZE then
carries seconds, minutes and hours (R170, R171, R176, R177). For a normalised time the seconds stay as they are. -/
def Obligations.SetMutMovesTheMinute : Prop :=
  ∀ s : State, MainAt 0x17 s →
    let target := if s.hold.toNat < s.cfg.accelCycles.toNat then s.min.toNat + 1 else s.min.toNat / 10 * 10 + 10
    let minute := target + s.sec.toNat / 60
    let hour := s.hr.toNat + minute / 60
    ∃ (a m : BitVec 6) (h : BitVec 5), a.toNat = s.sec.toNat % 60 ∧ m.toNat = minute % 60 ∧
      h.toNat = (if s.cfg.mode12 then (hour + 11) % 12 + 1 else hour % 24) ∧
      exec .setMut s = .next { s with sec := a, min := m, hr := h, phase := 0x18 }

/-- LED_LOOP (R236): the end of the window comes first, then a new touch toggles the LED, then its release is noted; with none of the
three MAIN is held and nothing changes. -/
def Obligations.LedLoopTogglesPerTouch : Prop :=
  ∀ s : State, MainAt 0x24 s →
    let passed := (s.ms.toNat + 2 ^ 32 - s.t0.toNat) % 2 ^ 32
    (s.cfg.ledWindowMs.toNat ≤ passed → exec .ledLoop s = .next { s with phase := 0x25 }) ∧
    (passed < s.cfg.ledWindowMs.toNat →
      (s.aux = true → s.auxp = false → exec .ledLoop s = .next { s with led := !s.led, auxp := true }) ∧
      (s.aux = false → s.auxp = true → exec .ledLoop s = .next { s with auxp := false }) ∧
      (s.aux = s.auxp → exec .ledLoop s = .next s))

/-! ## Boot and reset -/

/-- BOOT_HEAD (R355): the next frame while the script has one, else hand-over to SLP_EVAL. -/
def Obligations.BootHeadStartsAFrame : Prop :=
  ∀ s : State, MainAt 0x38 s →
    (s.bi.toNat < s.cfg.bootScript.length → exec .bootHead s = .next { s with t0 := s.ms, phase := 0x39 }) ∧
    (s.cfg.bootScript.length ≤ s.bi.toNat → exec .bootHead s = .next { s with phase := 0x00 })

/-- BOOT_FRAME (R356): one more sweep of the frame while fewer than CFG.MSG_MS milliseconds have passed, else the next frame, where BI
holds the sum, as it does in every state the invariant admits (R31). Past the end of the script, which no run reaches, the step is
taken with a text nothing constrains (log 11). -/
def Obligations.BootFrameShowsTheText : Prop :=
  ∀ s : State, MainAt 0x39 s →
    let passed := (s.ms.toNat + 2 ^ 32 - s.t0.toNat) % 2 ^ 32
    (passed < s.cfg.msgMs.toNat →
      (∀ x, s.cfg.bootScript[s.bi.toNat]? = some x →
        exec .bootFrame s = .next { s with txt := x, ret := 0x3A, phase := 0x31 }) ∧
      ∃ x : BitVec 32, exec .bootFrame s = .next { s with txt := x, ret := 0x3A, phase := 0x31 }) ∧
    (s.cfg.msgMs.toNat ≤ passed → s.bi.toNat < 255 → ∃ b : BitVec 8, b.toNat = s.bi.toNat + 1 ∧
      exec .bootFrame s = .next { s with bi := b, phase := 0x38 })

/-- RESET (R350, R351): with well-formed straps every register and output takes the value of the reset table, whatever the state was,
NOW restarts at 0 and the input levels stay; with ill-formed straps it is refused. That the schedule and the input script stay and the
function wires are cleared is the model's choice (log 7). -/
def Obligations.ResetLoadsTheResetTable : Prop :=
  ∀ s : State,
    (s.straps.wf = true → exec .reset s = .next
      { sec := s.straps.defaultSec, min := s.straps.defaultMin, hr := s.straps.defaultHr, m1 := 0, m2 := 0, m3 := 0, m4 := 0,
        colon := false, pos := 1, t0 := 0, wt := 0, idle := 0, hold := 0, rep := 0, txt := 0, bi := 0, phase := 0x38, ret := 0,
        mode := 0, showReq := false, ledReq := false, hit := false, auxp := false, tickMask := false, led := false,
        tickOverrun := false, cfg := s.straps, ip := 0, halt := false, ms := 0, tcnt := 0, btnN := s.btnN, aux := s.aux,
        segN := 0x7F, dig := 0, colonN := true, now := 0, straps := s.straps, sched := s.sched, inputs := s.inputs,
        fn := FnPort.zero }) ∧
    (s.straps.wf = false → exec .reset s = .refused .illFormedConfig)

/-! ## Interrupts and the environment -/

/-- IRQ_TICK (R310): enabled by IP[0] with TICK_MASK 0, it adds the period to TimeOfDay, clears IP[0] and HALT and changes nothing else;
not enabled, nothing changes. The values written are TICK_FN's, whose result fits the registers. -/
def Obligations.IrqTickAddsThePeriod : Prop :=
  ∀ s : State,
    (s.ip.getLsbD 0 = true → s.tickMask = false →
      ∃ (a m : BitVec 6) (h : BitVec 5), (⟨a.toNat, m.toNat, h.toNat⟩ : Time) =
          normalize ⟨s.sec.toNat + s.cfg.tickPeriodS.toNat, s.min.toNat, s.hr.toNat⟩ s.cfg.mode12 ∧
        exec .irqTick s = .next { s with sec := a, min := m, hr := h, ip := s.ip &&& 0b110, halt := false }) ∧
    (s.ip.getLsbD 0 = false ∨ s.tickMask = true → exec .irqTick s = .next s)

/-- IRQ_BTN and IRQ_AUX (R311, R312): enabled by its pending bit each sets its request, clears the bit and HALT and changes nothing else;
not enabled, nothing changes. -/
def Obligations.ButtonHandlersSetTheirRequest : Prop :=
  ∀ s : State,
    (s.ip.getLsbD 1 = true → exec .irqBtn s = .next { s with showReq := true, ip := s.ip &&& 0b101, halt := false }) ∧
    (s.ip.getLsbD 1 = false → exec .irqBtn s = .next s) ∧
    (s.ip.getLsbD 2 = true → exec .irqAux s = .next { s with ledReq := true, ip := s.ip &&& 0b011, halt := false }) ∧
    (s.ip.getLsbD 2 = false → exec .irqAux s = .next s)

/-- The order of two handlers cannot be observed: either order gives the same state (R314). A handler that is not enabled is held and
changes nothing, which is the model's choice (log 3). -/
def Obligations.HandlersCommute : Prop :=
  ∀ (s : State), ∀ i ∈ ([.irqTick, .irqBtn, .irqAux] : List Instr), ∀ j ∈ ([.irqTick, .irqBtn, .irqAux] : List Instr),
    ∃ t, execAll [i, j] s = .next t ∧ execAll [j, i] s = .next t

/-- The four input events (R305 to R308): each changes its level, BTN_PRESS sets IP[1], both changes of AUX set IP[2], BTN_RELEASE
raises nothing; an event that repeats the level is refused (R304). -/
def Obligations.InputEventsChangeTheLevel : Prop :=
  ∀ s : State,
    (s.btnN = true → exec .btnPress s = .next { s with btnN := false, ip := s.ip ||| 0b010 } ∧
      exec .btnRelease s = .refused .levelRepeat) ∧
    (s.btnN = false → exec .btnRelease s = .next { s with btnN := true } ∧ exec .btnPress s = .refused .levelRepeat) ∧
    (s.aux = false → exec .auxPress s = .next { s with aux := true, ip := s.ip ||| 0b100 } ∧
      exec .auxRelease s = .refused .levelRepeat) ∧
    (s.aux = true → exec .auxRelease s = .next { s with aux := false, ip := s.ip ||| 0b100 } ∧
      exec .auxPress s = .refused .levelRepeat)

/-- TICK_RAISE (R309): it sets IP[0], or TICK_OVERRUN if IP[0] is set already. That it may be a step of its own is the choice that rule
leaves a model (log 14). -/
def Obligations.TickRaiseSetsPendingOrOverrun : Prop :=
  ∀ s : State,
    (s.ip.getLsbD 0 = false → exec .tickRaise s = .next { s with ip := s.ip ||| 0b001 }) ∧
    (s.ip.getLsbD 0 = true → exec .tickRaise s = .next { s with tickOverrun := true })

/-- ADVANCE dt (R321): a positive time that skips no tick boundary moves NOW, MS, WT and TCNT, and on the boundary restarts TCNT and
raises the tick; any other dt is held and nothing changes. The period of every legal configuration is below 2^28 microseconds. -/
def Obligations.AdvancePassesTime : Prop :=
  ∀ (s : State) (dt : Nat),
    let pus := s.cfg.tickPeriodS.toNat * 1000000
    (1 ≤ dt → s.tcnt.toNat + dt < pus → ∃ (a w : BitVec 32) (c : BitVec 28),
      a.toNat = (s.now + dt) / 1000 % 2 ^ 32 ∧ w.toNat = s.wt.toNat - dt ∧ c.toNat = s.tcnt.toNat + dt ∧
      exec (.advance dt) s = .next { s with now := s.now + dt, ms := a, wt := w, tcnt := c }) ∧
    (1 ≤ dt → s.tcnt.toNat + dt = pus → ∃ (a w : BitVec 32),
      a.toNat = (s.now + dt) / 1000 % 2 ^ 32 ∧ w.toNat = s.wt.toNat - dt ∧
      (s.ip.getLsbD 0 = false → exec (.advance dt) s =
        .next { s with now := s.now + dt, ms := a, wt := w, tcnt := 0, ip := s.ip ||| 0b001 }) ∧
      (s.ip.getLsbD 0 = true → exec (.advance dt) s =
        .next { s with now := s.now + dt, ms := a, wt := w, tcnt := 0, tickOverrun := true })) ∧
    (dt = 0 ∨ pus < s.tcnt.toNat + dt → exec (.advance dt) s = .next s)

/-- A tick that fires inside the bracket, before SET_MUT or after it, is delayed, not lost (R82): IRQ_TICK is held until SET_UNLOCK and then
adds its period to the already changed time. That the held IRQ_TICK answers the same state is the model's choice (log 3). -/
def Obligations.BracketDelaysTheTick : Prop :=
  ∀ (s : State) (dt : Nat), MainAt 0x16 s → s.ip.getLsbD 0 = false → 1 ≤ dt → s.tcnt.toNat + dt = s.cfg.periodUs →
    let set := fun t : Time => if s.hold.toNat < s.cfg.accelCycles.toNat then incFn s.cfg t else jumpFn s.cfg t
    ∀ bracket ∈ ([[.setLock, .advance dt, .irqTick, .setMut, .irqTick], [.setLock, .setMut, .advance dt, .irqTick]] : List (List Instr)),
      ∃ t u, execAll bracket s = .next t ∧ t.time = set s.time ∧ t.ip.getLsbD 0 = true ∧ t.irqEnabled 0 = false ∧
        execAll [.setUnlock, .irqTick] t = .next u ∧ u.time = tickFn s.cfg (set s.time) ∧ u.ip.getLsbD 0 = false ∧
        u.tickOverrun = s.tickOverrun ∧ u.phase = 0x19

/-- A tick-only wake shows nothing (R283): the tick's handler advances the time and wakes MAIN, SLP_EVAL halts it again, and no output
port changes on the way. SLP_EVAL is the one enabled MAIN step: every other is held, which answers the same state by the model's choice
(log 3). -/
def Obligations.TickOnlyWakeShowsNothing : Prop :=
  ∀ s : State, s.halt = true → s.phase = 0x00 → s.ip.getLsbD 0 = true → s.tickMask = false → s.showReq = false →
    s.ledReq = false → s.cfg.alwaysOn = false →
    ∃ t u, exec .irqTick s = .next t ∧ t.halt = false ∧ t.outputs = s.outputs ∧
      exec .slpEval t = .next u ∧ u.halt = true ∧ u.phase = 0x00 ∧ u.outputs = s.outputs ∧ u.time = tickFn s.cfg s.time ∧
      ∀ i p, mainPhase i = some p → i ≠ .slpEval → exec i t = .next t

/-- No lost wake-up (R286): whenever IRQ_BTN or IRQ_AUX runs and, after any steps of ENV, handlers or MAIN but EXIT_OFF, LED_EXIT and RESET,
MAIN comes to its next SLP_EVAL, the flag is still 1, MAIN is not halted, and that step dispatches: to ShowingTime for the button, for
AUX to LedToggle unless the button or always-on operation goes first. -/
def Obligations.HandlerAtSleepAlwaysDispatches : Prop :=
  ∀ (s u : State) (between : List Instr),
    (∀ i ∈ between, i ≠ .slpEval ∧ i ≠ .exitOff ∧ i ≠ .ledExit ∧ i ≠ .reset) →
    (s.ip.getLsbD 1 = true → execAll (.irqBtn :: between) s = .next u →
      u.showReq = true ∧ u.halt = false ∧
        (u.phase = 0x00 → ∃ t, exec .slpEval u = .next t ∧ t.mode = 1 ∧ t.phase = 0x01 ∧ t.halt = false)) ∧
    (s.ip.getLsbD 2 = true → execAll (.irqAux :: between) s = .next u →
      u.ledReq = true ∧ u.halt = false ∧
        (u.phase = 0x00 → ∃ t, exec .slpEval u = .next t ∧ t.halt = false ∧
          if u.showReq = true ∨ u.cfg.alwaysOn = true then t.mode = 1 ∧ t.phase = 0x01 else t.mode = 3 ∧ t.phase = 0x20))

/-! ## The whole machine -/

/-- Who writes TimeOfDay and the configuration (R40, R80): SEC, MIN, HR change only in IRQ_TICK, in SET_MUT with TICK_MASK 1, and in
RESET; the sampled configuration changes only in RESET and the straps never. -/
def Obligations.TimeAndConfigOwnership : Prop :=
  ∀ (i : Instr) (s t : State), MaskOk s → exec i s = .next t → i ≠ .reset →
    t.cfg = s.cfg ∧ t.straps = s.straps ∧
    (t.sec ≠ s.sec ∨ t.min ≠ s.min ∨ t.hr ≠ s.hr → i = .irqTick ∨ (i = .setMut ∧ s.tickMask = true))

/-- Who drives the outputs (R80): the display lines change only in DD_ON, DD_OFF and RESET, the LED only in SHW_BEGIN, EXIT_OFF,
LED_BEGIN, LED_LOOP and RESET; no handler and no other event of the environment touches them. -/
def Obligations.OutputOwnership : Prop :=
  ∀ (i : Instr) (s t : State), exec i s = .next t →
    (t.segN ≠ s.segN ∨ t.dig ≠ s.dig ∨ t.colonN ≠ s.colonN → i = .ddOn ∨ i = .ddOff ∨ i = .reset) ∧
    (t.led ≠ s.led → i = .shwBegin ∨ i = .exitOff ∨ i = .ledBegin ∨ i = .ledLoop ∨ i = .reset)

/-- Who sets and clears HALT, the requests and TICK_MASK (R35, R37, R49, R284): SLP_EVAL alone halts and only a handler or RESET wakes;
SHOW_REQ is set by IRQ_BTN and LED_REQ by IRQ_AUX alone, both cleared only by EXIT_OFF, LED_EXIT and RESET; SET_LOCK alone masks the
tick, and only SET_UNLOCK and RESET unmask it. -/
def Obligations.WakeFlagOwnership : Prop :=
  ∀ (i : Instr) (s t : State), exec i s = .next t →
    (s.halt = false → t.halt = true → i = .slpEval) ∧
    (s.halt = true → t.halt = false → i = .irqTick ∨ i = .irqBtn ∨ i = .irqAux ∨ i = .reset) ∧
    (s.showReq = false → t.showReq = true → i = .irqBtn) ∧
    (s.ledReq = false → t.ledReq = true → i = .irqAux) ∧
    (s.showReq = true ∧ t.showReq = false ∨ s.ledReq = true ∧ t.ledReq = false →
      i = .exitOff ∨ i = .ledExit ∨ i = .reset) ∧
    (s.tickMask = false → t.tickMask = true → i = .setLock) ∧
    (s.tickMask = true → t.tickMask = false → i = .setUnlock ∨ i = .reset)

/-- The mode graph (R202): every step that changes MODE other than RESET takes one of its edges, on that edge's condition. For the three
edges into Sleeping the condition stands at the step that leads to EXIT_OFF or LED_EXIT: expiry with the button up, the early exit of a
tap, IDLE at its threshold, the window of LedToggle over. -/
def Obligations.ModeChangesFollowTheGraph : Prop :=
  ∀ (i : Instr) (s t : State), ModeOk s → PhaseOk s → exec i s = .next t → i ≠ .reset →
    (t.mode ≠ s.mode →
      (s.mode = 0 ∧ t.mode = 1 ∧ i = .slpEval ∧ (s.showReq = true ∨ s.cfg.alwaysOn = true)) ∨
      (s.mode = 0 ∧ t.mode = 3 ∧ i = .slpEval ∧ s.ledReq = true ∧ s.showReq = false ∧ s.cfg.alwaysOn = false) ∨
      (s.mode = 1 ∧ t.mode = 2 ∧ i = .shwExpire ∧ s.btnN = false) ∨
      (s.mode = 1 ∧ t.mode = 0 ∧ i = .exitOff ∧ s.phase = 0x0A) ∨
      (s.mode = 2 ∧ t.mode = 0 ∧ i = .exitOff ∧ s.phase = 0x0A) ∨
      (s.mode = 3 ∧ t.mode = 0 ∧ i = .ledExit ∧ s.phase = 0x25)) ∧
    (t.phase = 0x0A → s.phase ≠ 0x0A →
      (s.mode = 1 ∧ i = .shwExpire ∧ s.btnN = true) ∨
      (s.mode = 1 ∧ i = .shwPoll ∧ s.btnN = true ∧ s.hit = true) ∨
      (s.mode = 2 ∧ i = .setHead ∧ s.cfg.setIdleMs.toNat ≤ s.idle.toNat)) ∧
    (t.phase = 0x25 → s.phase ≠ 0x25 →
      s.mode = 3 ∧ i = .ledLoop ∧ s.cfg.ledWindowMs.toNat ≤ (s.ms.toNat + 2 ^ 32 - s.t0.toNat) % 2 ^ 32)

/-- Every step keeps TimeOfDay normalised (R23). -/
def Obligations.StepsKeepTimeNormalised : Prop :=
  ∀ s t : State, ConfigOk s → TimeOk s → step s = .next t → ConfigOk t ∧ TimeOk t

/-- Every step keeps the rest rule (R149, R152): with PHASE and RET as they go together, the display is at rest outside DD_HOLD and
DD_OFF, in them exactly position POS shows its mask, and DIG is one-hot or zero (R94). -/
def Obligations.StepsKeepTheRestRule : Prop :=
  ∀ s t : State, PhaseOk s → LinesOk s → PosOk s → step s = .next t →
    PhaseOk t ∧ LinesOk t ∧ PosOk t ∧ (t.dig = 0 ∨ t.dig = 1 ∨ t.dig = 2 ∨ t.dig = 4 ∨ t.dig = 8) ∧
      (isLit t.phase = false ↔ t.dig = 0)

/-- The machine's invariant holds at State.reset, and after power-on with any well-formed straps and any input levels; an ill-formed
configuration is refused before the run starts (R47, R301, R350). State.reset's open straps and input levels are the model's (log 5,
log 6). -/
def Obligations.PowerOnEstablishesInvariant : Prop :=
  Inv State.reset ∧
  ∀ (c : Cfg) (btnN aux : Bool),
    (c.wf = true → ∃ s, powerOn c btnN aux = .next s ∧ Inv s ∧ s.cfg = c ∧ s.btnN = btnN ∧ s.aux = aux) ∧
    (c.wf = false → powerOn c btnN aux = .refused .illFormedConfig)

/-- Every step keeps the machine's invariant, from every state that has it (R23, R25, R31, R33, R37, R50, R51, R149, R201, R282). -/
def Obligations.StepsKeepTheInvariant : Prop :=
  ∀ s t : State, Inv s → step s = .next t → Inv t

/-- No step faults while TCNT is below the period, as it always is in a run (R51, R239, R300): some agent always has an enabled step. -/
def Obligations.NoStepFaults : Prop :=
  ∀ (s : State) (f : Fault), s.tcnt.toNat < s.cfg.periodUs → step s ≠ .fault f

/-- What still can stop a run is a refusal, and only at the boundary (R12). An operation is refused for an input event that repeats the
level, for ill-formed straps at RESET, and for BCD4 above 9999, where a function as a step is the model's choice (log 8). A step is
refused for one of these, from the schedule or the input script, or because the schedule's next words encode no operation: a reserved
OP8 code, an operand with no ADVANCE before it, an ADVANCE with no operand (R98, R105; log 15). -/
def Obligations.RefusalsOnlyAtTheBoundary : Prop :=
  (∀ (i : Instr) (s : State) (r : Refusal), exec i s = .refused r →
    (r = .levelRepeat ∧ (i = .btnPress ∧ s.btnN = false ∨ i = .btnRelease ∧ s.btnN = true ∨ i = .auxPress ∧ s.aux = true ∨
      i = .auxRelease ∧ s.aux = false)) ∨
    (r = .illFormedConfig ∧ i = .reset ∧ s.straps.wf = false) ∨
    (r = .valueTooLarge ∧ i = .bcd4 ∧ 9999 < s.fn.value.toNat)) ∧
  ∀ (s : State) (r : Refusal), step s = .refused r →
    (∃ c rest, s.sched = .op8 c :: rest ∧ c ≠ 0x80 ∧ decodeOp c = none ∧ r = .undecodable (.reservedOp c)) ∨
    (∃ n rest, s.sched = .dt n :: rest ∧ r = .undecodable (.strayOperand n)) ∨
    (∃ rest, s.sched = .op8 0x80 :: rest ∧ (∀ n w, rest ≠ .dt n :: w) ∧ r = .undecodable .missingOperand) ∨
    (∃ i rest, s.sched = encode i ++ rest ∧ exec i { s with sched := rest } = .refused r) ∨
    (∃ e rest, s.sched = [] ∧ s.inputs = e :: rest ∧ e.1 ≤ s.now ∧ exec e.2.instr { s with inputs := rest } = .refused r)
end

