-- ==== Sys2Proof/Laws/State.lean ====
section
/-! SUPPORT. The small lemmas of the state's updates: for each update, one per field, saying what the field reads after it. -/
namespace Sys2Proof.Machine

@[simp] theorem State.goto_sec (s : State) (p : Phase) : (s.goto p).sec = s.sec := rfl
@[simp] theorem State.goto_min (s : State) (p : Phase) : (s.goto p).min = s.min := rfl
@[simp] theorem State.goto_hr (s : State) (p : Phase) : (s.goto p).hr = s.hr := rfl
@[simp] theorem State.goto_m1 (s : State) (p : Phase) : (s.goto p).m1 = s.m1 := rfl
@[simp] theorem State.goto_m2 (s : State) (p : Phase) : (s.goto p).m2 = s.m2 := rfl
@[simp] theorem State.goto_m3 (s : State) (p : Phase) : (s.goto p).m3 = s.m3 := rfl
@[simp] theorem State.goto_m4 (s : State) (p : Phase) : (s.goto p).m4 = s.m4 := rfl
@[simp] theorem State.goto_colon (s : State) (p : Phase) : (s.goto p).colon = s.colon := rfl
@[simp] theorem State.goto_pos (s : State) (p : Phase) : (s.goto p).pos = s.pos := rfl
@[simp] theorem State.goto_t0 (s : State) (p : Phase) : (s.goto p).t0 = s.t0 := rfl
@[simp] theorem State.goto_wt (s : State) (p : Phase) : (s.goto p).wt = s.wt := rfl
@[simp] theorem State.goto_idle (s : State) (p : Phase) : (s.goto p).idle = s.idle := rfl
@[simp] theorem State.goto_hold (s : State) (p : Phase) : (s.goto p).hold = s.hold := rfl
@[simp] theorem State.goto_rep (s : State) (p : Phase) : (s.goto p).rep = s.rep := rfl
@[simp] theorem State.goto_txt (s : State) (p : Phase) : (s.goto p).txt = s.txt := rfl
@[simp] theorem State.goto_bi (s : State) (p : Phase) : (s.goto p).bi = s.bi := rfl
@[simp] theorem State.goto_phase (s : State) (p : Phase) : (s.goto p).phase = p := rfl
@[simp] theorem State.goto_ret (s : State) (p : Phase) : (s.goto p).ret = s.ret := rfl
@[simp] theorem State.goto_mode (s : State) (p : Phase) : (s.goto p).mode = s.mode := rfl
@[simp] theorem State.goto_showReq (s : State) (p : Phase) : (s.goto p).showReq = s.showReq := rfl
@[simp] theorem State.goto_ledReq (s : State) (p : Phase) : (s.goto p).ledReq = s.ledReq := rfl
@[simp] theorem State.goto_hit (s : State) (p : Phase) : (s.goto p).hit = s.hit := rfl
@[simp] theorem State.goto_auxp (s : State) (p : Phase) : (s.goto p).auxp = s.auxp := rfl
@[simp] theorem State.goto_tickMask (s : State) (p : Phase) : (s.goto p).tickMask = s.tickMask := rfl
@[simp] theorem State.goto_led (s : State) (p : Phase) : (s.goto p).led = s.led := rfl
@[simp] theorem State.goto_tickOverrun (s : State) (p : Phase) : (s.goto p).tickOverrun = s.tickOverrun := rfl
@[simp] theorem State.goto_cfg (s : State) (p : Phase) : (s.goto p).cfg = s.cfg := rfl
@[simp] theorem State.goto_ip (s : State) (p : Phase) : (s.goto p).ip = s.ip := rfl
@[simp] theorem State.goto_halt (s : State) (p : Phase) : (s.goto p).halt = s.halt := rfl
@[simp] theorem State.goto_ms (s : State) (p : Phase) : (s.goto p).ms = s.ms := rfl
@[simp] theorem State.goto_tcnt (s : State) (p : Phase) : (s.goto p).tcnt = s.tcnt := rfl
@[simp] theorem State.goto_btnN (s : State) (p : Phase) : (s.goto p).btnN = s.btnN := rfl
@[simp] theorem State.goto_aux (s : State) (p : Phase) : (s.goto p).aux = s.aux := rfl
@[simp] theorem State.goto_segN (s : State) (p : Phase) : (s.goto p).segN = s.segN := rfl
@[simp] theorem State.goto_dig (s : State) (p : Phase) : (s.goto p).dig = s.dig := rfl
@[simp] theorem State.goto_colonN (s : State) (p : Phase) : (s.goto p).colonN = s.colonN := rfl
@[simp] theorem State.goto_now (s : State) (p : Phase) : (s.goto p).now = s.now := rfl
@[simp] theorem State.goto_straps (s : State) (p : Phase) : (s.goto p).straps = s.straps := rfl
@[simp] theorem State.goto_sched (s : State) (p : Phase) : (s.goto p).sched = s.sched := rfl
@[simp] theorem State.goto_inputs (s : State) (p : Phase) : (s.goto p).inputs = s.inputs := rfl
@[simp] theorem State.goto_fn (s : State) (p : Phase) : (s.goto p).fn = s.fn := rfl

@[simp] theorem State.restLines_sec (s : State) : s.restLines.sec = s.sec := rfl
@[simp] theorem State.restLines_min (s : State) : s.restLines.min = s.min := rfl
@[simp] theorem State.restLines_hr (s : State) : s.restLines.hr = s.hr := rfl
@[simp] theorem State.restLines_m1 (s : State) : s.restLines.m1 = s.m1 := rfl
@[simp] theorem State.restLines_m2 (s : State) : s.restLines.m2 = s.m2 := rfl
@[simp] theorem State.restLines_m3 (s : State) : s.restLines.m3 = s.m3 := rfl
@[simp] theorem State.restLines_m4 (s : State) : s.restLines.m4 = s.m4 := rfl
@[simp] theorem State.restLines_colon (s : State) : s.restLines.colon = s.colon := rfl
@[simp] theorem State.restLines_pos (s : State) : s.restLines.pos = s.pos := rfl
@[simp] theorem State.restLines_t0 (s : State) : s.restLines.t0 = s.t0 := rfl
@[simp] theorem State.restLines_wt (s : State) : s.restLines.wt = s.wt := rfl
@[simp] theorem State.restLines_idle (s : State) : s.restLines.idle = s.idle := rfl
@[simp] theorem State.restLines_hold (s : State) : s.restLines.hold = s.hold := rfl
@[simp] theorem State.restLines_rep (s : State) : s.restLines.rep = s.rep := rfl
@[simp] theorem State.restLines_txt (s : State) : s.restLines.txt = s.txt := rfl
@[simp] theorem State.restLines_bi (s : State) : s.restLines.bi = s.bi := rfl
@[simp] theorem State.restLines_phase (s : State) : s.restLines.phase = s.phase := rfl
@[simp] theorem State.restLines_ret (s : State) : s.restLines.ret = s.ret := rfl
@[simp] theorem State.restLines_mode (s : State) : s.restLines.mode = s.mode := rfl
@[simp] theorem State.restLines_showReq (s : State) : s.restLines.showReq = s.showReq := rfl
@[simp] theorem State.restLines_ledReq (s : State) : s.restLines.ledReq = s.ledReq := rfl
@[simp] theorem State.restLines_hit (s : State) : s.restLines.hit = s.hit := rfl
@[simp] theorem State.restLines_auxp (s : State) : s.restLines.auxp = s.auxp := rfl
@[simp] theorem State.restLines_tickMask (s : State) : s.restLines.tickMask = s.tickMask := rfl
@[simp] theorem State.restLines_led (s : State) : s.restLines.led = s.led := rfl
@[simp] theorem State.restLines_tickOverrun (s : State) : s.restLines.tickOverrun = s.tickOverrun := rfl
@[simp] theorem State.restLines_cfg (s : State) : s.restLines.cfg = s.cfg := rfl
@[simp] theorem State.restLines_ip (s : State) : s.restLines.ip = s.ip := rfl
@[simp] theorem State.restLines_halt (s : State) : s.restLines.halt = s.halt := rfl
@[simp] theorem State.restLines_ms (s : State) : s.restLines.ms = s.ms := rfl
@[simp] theorem State.restLines_tcnt (s : State) : s.restLines.tcnt = s.tcnt := rfl
@[simp] theorem State.restLines_btnN (s : State) : s.restLines.btnN = s.btnN := rfl
@[simp] theorem State.restLines_aux (s : State) : s.restLines.aux = s.aux := rfl
@[simp] theorem State.restLines_segN (s : State) : s.restLines.segN = segRest := rfl
@[simp] theorem State.restLines_dig (s : State) : s.restLines.dig = digRest := rfl
@[simp] theorem State.restLines_colonN (s : State) : s.restLines.colonN = true := rfl
@[simp] theorem State.restLines_now (s : State) : s.restLines.now = s.now := rfl
@[simp] theorem State.restLines_straps (s : State) : s.restLines.straps = s.straps := rfl
@[simp] theorem State.restLines_sched (s : State) : s.restLines.sched = s.sched := rfl
@[simp] theorem State.restLines_inputs (s : State) : s.restLines.inputs = s.inputs := rfl
@[simp] theorem State.restLines_fn (s : State) : s.restLines.fn = s.fn := rfl

@[simp] theorem State.lightPos_sec (s : State) : s.lightPos.sec = s.sec := rfl
@[simp] theorem State.lightPos_min (s : State) : s.lightPos.min = s.min := rfl
@[simp] theorem State.lightPos_hr (s : State) : s.lightPos.hr = s.hr := rfl
@[simp] theorem State.lightPos_m1 (s : State) : s.lightPos.m1 = s.m1 := rfl
@[simp] theorem State.lightPos_m2 (s : State) : s.lightPos.m2 = s.m2 := rfl
@[simp] theorem State.lightPos_m3 (s : State) : s.lightPos.m3 = s.m3 := rfl
@[simp] theorem State.lightPos_m4 (s : State) : s.lightPos.m4 = s.m4 := rfl
@[simp] theorem State.lightPos_colon (s : State) : s.lightPos.colon = s.colon := rfl
@[simp] theorem State.lightPos_pos (s : State) : s.lightPos.pos = s.pos := rfl
@[simp] theorem State.lightPos_t0 (s : State) : s.lightPos.t0 = s.t0 := rfl
@[simp] theorem State.lightPos_wt (s : State) : s.lightPos.wt = s.wt := rfl
@[simp] theorem State.lightPos_idle (s : State) : s.lightPos.idle = s.idle := rfl
@[simp] theorem State.lightPos_hold (s : State) : s.lightPos.hold = s.hold := rfl
@[simp] theorem State.lightPos_rep (s : State) : s.lightPos.rep = s.rep := rfl
@[simp] theorem State.lightPos_txt (s : State) : s.lightPos.txt = s.txt := rfl
@[simp] theorem State.lightPos_bi (s : State) : s.lightPos.bi = s.bi := rfl
@[simp] theorem State.lightPos_phase (s : State) : s.lightPos.phase = s.phase := rfl
@[simp] theorem State.lightPos_ret (s : State) : s.lightPos.ret = s.ret := rfl
@[simp] theorem State.lightPos_mode (s : State) : s.lightPos.mode = s.mode := rfl
@[simp] theorem State.lightPos_showReq (s : State) : s.lightPos.showReq = s.showReq := rfl
@[simp] theorem State.lightPos_ledReq (s : State) : s.lightPos.ledReq = s.ledReq := rfl
@[simp] theorem State.lightPos_hit (s : State) : s.lightPos.hit = s.hit := rfl
@[simp] theorem State.lightPos_auxp (s : State) : s.lightPos.auxp = s.auxp := rfl
@[simp] theorem State.lightPos_tickMask (s : State) : s.lightPos.tickMask = s.tickMask := rfl
@[simp] theorem State.lightPos_led (s : State) : s.lightPos.led = s.led := rfl
@[simp] theorem State.lightPos_tickOverrun (s : State) : s.lightPos.tickOverrun = s.tickOverrun := rfl
@[simp] theorem State.lightPos_cfg (s : State) : s.lightPos.cfg = s.cfg := rfl
@[simp] theorem State.lightPos_ip (s : State) : s.lightPos.ip = s.ip := rfl
@[simp] theorem State.lightPos_halt (s : State) : s.lightPos.halt = s.halt := rfl
@[simp] theorem State.lightPos_ms (s : State) : s.lightPos.ms = s.ms := rfl
@[simp] theorem State.lightPos_tcnt (s : State) : s.lightPos.tcnt = s.tcnt := rfl
@[simp] theorem State.lightPos_btnN (s : State) : s.lightPos.btnN = s.btnN := rfl
@[simp] theorem State.lightPos_aux (s : State) : s.lightPos.aux = s.aux := rfl
@[simp] theorem State.lightPos_segN (s : State) : s.lightPos.segN = driveSeg s.maskAt := rfl
@[simp] theorem State.lightPos_dig (s : State) : s.lightPos.dig = onehot4 s.pos := rfl
@[simp] theorem State.lightPos_colonN (s : State) : s.lightPos.colonN = driveColon s.colon := rfl
@[simp] theorem State.lightPos_now (s : State) : s.lightPos.now = s.now := rfl
@[simp] theorem State.lightPos_straps (s : State) : s.lightPos.straps = s.straps := rfl
@[simp] theorem State.lightPos_sched (s : State) : s.lightPos.sched = s.sched := rfl
@[simp] theorem State.lightPos_inputs (s : State) : s.lightPos.inputs = s.inputs := rfl
@[simp] theorem State.lightPos_fn (s : State) : s.lightPos.fn = s.fn := rfl

@[simp] theorem State.startWait_sec (s : State) (us : Nat) : (s.startWait us).sec = s.sec := rfl
@[simp] theorem State.startWait_min (s : State) (us : Nat) : (s.startWait us).min = s.min := rfl
@[simp] theorem State.startWait_hr (s : State) (us : Nat) : (s.startWait us).hr = s.hr := rfl
@[simp] theorem State.startWait_m1 (s : State) (us : Nat) : (s.startWait us).m1 = s.m1 := rfl
@[simp] theorem State.startWait_m2 (s : State) (us : Nat) : (s.startWait us).m2 = s.m2 := rfl
@[simp] theorem State.startWait_m3 (s : State) (us : Nat) : (s.startWait us).m3 = s.m3 := rfl
@[simp] theorem State.startWait_m4 (s : State) (us : Nat) : (s.startWait us).m4 = s.m4 := rfl
@[simp] theorem State.startWait_colon (s : State) (us : Nat) : (s.startWait us).colon = s.colon := rfl
@[simp] theorem State.startWait_pos (s : State) (us : Nat) : (s.startWait us).pos = s.pos := rfl
@[simp] theorem State.startWait_t0 (s : State) (us : Nat) : (s.startWait us).t0 = s.t0 := rfl
@[simp] theorem State.startWait_wt (s : State) (us : Nat) : (s.startWait us).wt = BitVec.ofNat 32 us := rfl
@[simp] theorem State.startWait_idle (s : State) (us : Nat) : (s.startWait us).idle = s.idle := rfl
@[simp] theorem State.startWait_hold (s : State) (us : Nat) : (s.startWait us).hold = s.hold := rfl
@[simp] theorem State.startWait_rep (s : State) (us : Nat) : (s.startWait us).rep = s.rep := rfl
@[simp] theorem State.startWait_txt (s : State) (us : Nat) : (s.startWait us).txt = s.txt := rfl
@[simp] theorem State.startWait_bi (s : State) (us : Nat) : (s.startWait us).bi = s.bi := rfl
@[simp] theorem State.startWait_phase (s : State) (us : Nat) : (s.startWait us).phase = s.phase := rfl
@[simp] theorem State.startWait_ret (s : State) (us : Nat) : (s.startWait us).ret = s.ret := rfl
@[simp] theorem State.startWait_mode (s : State) (us : Nat) : (s.startWait us).mode = s.mode := rfl
@[simp] theorem State.startWait_showReq (s : State) (us : Nat) : (s.startWait us).showReq = s.showReq := rfl
@[simp] theorem State.startWait_ledReq (s : State) (us : Nat) : (s.startWait us).ledReq = s.ledReq := rfl
@[simp] theorem State.startWait_hit (s : State) (us : Nat) : (s.startWait us).hit = s.hit := rfl
@[simp] theorem State.startWait_auxp (s : State) (us : Nat) : (s.startWait us).auxp = s.auxp := rfl
@[simp] theorem State.startWait_tickMask (s : State) (us : Nat) : (s.startWait us).tickMask = s.tickMask := rfl
@[simp] theorem State.startWait_led (s : State) (us : Nat) : (s.startWait us).led = s.led := rfl
@[simp] theorem State.startWait_tickOverrun (s : State) (us : Nat) : (s.startWait us).tickOverrun = s.tickOverrun := rfl
@[simp] theorem State.startWait_cfg (s : State) (us : Nat) : (s.startWait us).cfg = s.cfg := rfl
@[simp] theorem State.startWait_ip (s : State) (us : Nat) : (s.startWait us).ip = s.ip := rfl
@[simp] theorem State.startWait_halt (s : State) (us : Nat) : (s.startWait us).halt = s.halt := rfl
@[simp] theorem State.startWait_ms (s : State) (us : Nat) : (s.startWait us).ms = s.ms := rfl
@[simp] theorem State.startWait_tcnt (s : State) (us : Nat) : (s.startWait us).tcnt = s.tcnt := rfl
@[simp] theorem State.startWait_btnN (s : State) (us : Nat) : (s.startWait us).btnN = s.btnN := rfl
@[simp] theorem State.startWait_aux (s : State) (us : Nat) : (s.startWait us).aux = s.aux := rfl
@[simp] theorem State.startWait_segN (s : State) (us : Nat) : (s.startWait us).segN = s.segN := rfl
@[simp] theorem State.startWait_dig (s : State) (us : Nat) : (s.startWait us).dig = s.dig := rfl
@[simp] theorem State.startWait_colonN (s : State) (us : Nat) : (s.startWait us).colonN = s.colonN := rfl
@[simp] theorem State.startWait_now (s : State) (us : Nat) : (s.startWait us).now = s.now := rfl
@[simp] theorem State.startWait_straps (s : State) (us : Nat) : (s.startWait us).straps = s.straps := rfl
@[simp] theorem State.startWait_sched (s : State) (us : Nat) : (s.startWait us).sched = s.sched := rfl
@[simp] theorem State.startWait_inputs (s : State) (us : Nat) : (s.startWait us).inputs = s.inputs := rfl
@[simp] theorem State.startWait_fn (s : State) (us : Nat) : (s.startWait us).fn = s.fn := rfl

@[simp] theorem State.setTime_sec (s : State) (t : Time) : (s.setTime t).sec = BitVec.ofNat 6 t.s := rfl
@[simp] theorem State.setTime_min (s : State) (t : Time) : (s.setTime t).min = BitVec.ofNat 6 t.m := rfl
@[simp] theorem State.setTime_hr (s : State) (t : Time) : (s.setTime t).hr = BitVec.ofNat 5 t.h := rfl
@[simp] theorem State.setTime_m1 (s : State) (t : Time) : (s.setTime t).m1 = s.m1 := rfl
@[simp] theorem State.setTime_m2 (s : State) (t : Time) : (s.setTime t).m2 = s.m2 := rfl
@[simp] theorem State.setTime_m3 (s : State) (t : Time) : (s.setTime t).m3 = s.m3 := rfl
@[simp] theorem State.setTime_m4 (s : State) (t : Time) : (s.setTime t).m4 = s.m4 := rfl
@[simp] theorem State.setTime_colon (s : State) (t : Time) : (s.setTime t).colon = s.colon := rfl
@[simp] theorem State.setTime_pos (s : State) (t : Time) : (s.setTime t).pos = s.pos := rfl
@[simp] theorem State.setTime_t0 (s : State) (t : Time) : (s.setTime t).t0 = s.t0 := rfl
@[simp] theorem State.setTime_wt (s : State) (t : Time) : (s.setTime t).wt = s.wt := rfl
@[simp] theorem State.setTime_idle (s : State) (t : Time) : (s.setTime t).idle = s.idle := rfl
@[simp] theorem State.setTime_hold (s : State) (t : Time) : (s.setTime t).hold = s.hold := rfl
@[simp] theorem State.setTime_rep (s : State) (t : Time) : (s.setTime t).rep = s.rep := rfl
@[simp] theorem State.setTime_txt (s : State) (t : Time) : (s.setTime t).txt = s.txt := rfl
@[simp] theorem State.setTime_bi (s : State) (t : Time) : (s.setTime t).bi = s.bi := rfl
@[simp] theorem State.setTime_phase (s : State) (t : Time) : (s.setTime t).phase = s.phase := rfl
@[simp] theorem State.setTime_ret (s : State) (t : Time) : (s.setTime t).ret = s.ret := rfl
@[simp] theorem State.setTime_mode (s : State) (t : Time) : (s.setTime t).mode = s.mode := rfl
@[simp] theorem State.setTime_showReq (s : State) (t : Time) : (s.setTime t).showReq = s.showReq := rfl
@[simp] theorem State.setTime_ledReq (s : State) (t : Time) : (s.setTime t).ledReq = s.ledReq := rfl
@[simp] theorem State.setTime_hit (s : State) (t : Time) : (s.setTime t).hit = s.hit := rfl
@[simp] theorem State.setTime_auxp (s : State) (t : Time) : (s.setTime t).auxp = s.auxp := rfl
@[simp] theorem State.setTime_tickMask (s : State) (t : Time) : (s.setTime t).tickMask = s.tickMask := rfl
@[simp] theorem State.setTime_led (s : State) (t : Time) : (s.setTime t).led = s.led := rfl
@[simp] theorem State.setTime_tickOverrun (s : State) (t : Time) : (s.setTime t).tickOverrun = s.tickOverrun := rfl
@[simp] theorem State.setTime_cfg (s : State) (t : Time) : (s.setTime t).cfg = s.cfg := rfl
@[simp] theorem State.setTime_ip (s : State) (t : Time) : (s.setTime t).ip = s.ip := rfl
@[simp] theorem State.setTime_halt (s : State) (t : Time) : (s.setTime t).halt = s.halt := rfl
@[simp] theorem State.setTime_ms (s : State) (t : Time) : (s.setTime t).ms = s.ms := rfl
@[simp] theorem State.setTime_tcnt (s : State) (t : Time) : (s.setTime t).tcnt = s.tcnt := rfl
@[simp] theorem State.setTime_btnN (s : State) (t : Time) : (s.setTime t).btnN = s.btnN := rfl
@[simp] theorem State.setTime_aux (s : State) (t : Time) : (s.setTime t).aux = s.aux := rfl
@[simp] theorem State.setTime_segN (s : State) (t : Time) : (s.setTime t).segN = s.segN := rfl
@[simp] theorem State.setTime_dig (s : State) (t : Time) : (s.setTime t).dig = s.dig := rfl
@[simp] theorem State.setTime_colonN (s : State) (t : Time) : (s.setTime t).colonN = s.colonN := rfl
@[simp] theorem State.setTime_now (s : State) (t : Time) : (s.setTime t).now = s.now := rfl
@[simp] theorem State.setTime_straps (s : State) (t : Time) : (s.setTime t).straps = s.straps := rfl
@[simp] theorem State.setTime_sched (s : State) (t : Time) : (s.setTime t).sched = s.sched := rfl
@[simp] theorem State.setTime_inputs (s : State) (t : Time) : (s.setTime t).inputs = s.inputs := rfl
@[simp] theorem State.setTime_fn (s : State) (t : Time) : (s.setTime t).fn = s.fn := rfl

@[simp] theorem State.markStart_sec (s : State) : s.markStart.sec = s.sec := rfl
@[simp] theorem State.markStart_min (s : State) : s.markStart.min = s.min := rfl
@[simp] theorem State.markStart_hr (s : State) : s.markStart.hr = s.hr := rfl
@[simp] theorem State.markStart_m1 (s : State) : s.markStart.m1 = s.m1 := rfl
@[simp] theorem State.markStart_m2 (s : State) : s.markStart.m2 = s.m2 := rfl
@[simp] theorem State.markStart_m3 (s : State) : s.markStart.m3 = s.m3 := rfl
@[simp] theorem State.markStart_m4 (s : State) : s.markStart.m4 = s.m4 := rfl
@[simp] theorem State.markStart_colon (s : State) : s.markStart.colon = s.colon := rfl
@[simp] theorem State.markStart_pos (s : State) : s.markStart.pos = s.pos := rfl
@[simp] theorem State.markStart_t0 (s : State) : s.markStart.t0 = s.ms := rfl
@[simp] theorem State.markStart_wt (s : State) : s.markStart.wt = s.wt := rfl
@[simp] theorem State.markStart_idle (s : State) : s.markStart.idle = s.idle := rfl
@[simp] theorem State.markStart_hold (s : State) : s.markStart.hold = s.hold := rfl
@[simp] theorem State.markStart_rep (s : State) : s.markStart.rep = s.rep := rfl
@[simp] theorem State.markStart_txt (s : State) : s.markStart.txt = s.txt := rfl
@[simp] theorem State.markStart_bi (s : State) : s.markStart.bi = s.bi := rfl
@[simp] theorem State.markStart_phase (s : State) : s.markStart.phase = s.phase := rfl
@[simp] theorem State.markStart_ret (s : State) : s.markStart.ret = s.ret := rfl
@[simp] theorem State.markStart_mode (s : State) : s.markStart.mode = s.mode := rfl
@[simp] theorem State.markStart_showReq (s : State) : s.markStart.showReq = s.showReq := rfl
@[simp] theorem State.markStart_ledReq (s : State) : s.markStart.ledReq = s.ledReq := rfl
@[simp] theorem State.markStart_hit (s : State) : s.markStart.hit = s.hit := rfl
@[simp] theorem State.markStart_auxp (s : State) : s.markStart.auxp = s.auxp := rfl
@[simp] theorem State.markStart_tickMask (s : State) : s.markStart.tickMask = s.tickMask := rfl
@[simp] theorem State.markStart_led (s : State) : s.markStart.led = s.led := rfl
@[simp] theorem State.markStart_tickOverrun (s : State) : s.markStart.tickOverrun = s.tickOverrun := rfl
@[simp] theorem State.markStart_cfg (s : State) : s.markStart.cfg = s.cfg := rfl
@[simp] theorem State.markStart_ip (s : State) : s.markStart.ip = s.ip := rfl
@[simp] theorem State.markStart_halt (s : State) : s.markStart.halt = s.halt := rfl
@[simp] theorem State.markStart_ms (s : State) : s.markStart.ms = s.ms := rfl
@[simp] theorem State.markStart_tcnt (s : State) : s.markStart.tcnt = s.tcnt := rfl
@[simp] theorem State.markStart_btnN (s : State) : s.markStart.btnN = s.btnN := rfl
@[simp] theorem State.markStart_aux (s : State) : s.markStart.aux = s.aux := rfl
@[simp] theorem State.markStart_segN (s : State) : s.markStart.segN = s.segN := rfl
@[simp] theorem State.markStart_dig (s : State) : s.markStart.dig = s.dig := rfl
@[simp] theorem State.markStart_colonN (s : State) : s.markStart.colonN = s.colonN := rfl
@[simp] theorem State.markStart_now (s : State) : s.markStart.now = s.now := rfl
@[simp] theorem State.markStart_straps (s : State) : s.markStart.straps = s.straps := rfl
@[simp] theorem State.markStart_sched (s : State) : s.markStart.sched = s.sched := rfl
@[simp] theorem State.markStart_inputs (s : State) : s.markStart.inputs = s.inputs := rfl
@[simp] theorem State.markStart_fn (s : State) : s.markStart.fn = s.fn := rfl

@[simp] theorem State.loadMasks_sec (s : State) (a b c d : Mask) : (s.loadMasks a b c d).sec = s.sec := rfl
@[simp] theorem State.loadMasks_min (s : State) (a b c d : Mask) : (s.loadMasks a b c d).min = s.min := rfl
@[simp] theorem State.loadMasks_hr (s : State) (a b c d : Mask) : (s.loadMasks a b c d).hr = s.hr := rfl
@[simp] theorem State.loadMasks_m1 (s : State) (a b c d : Mask) : (s.loadMasks a b c d).m1 = a := rfl
@[simp] theorem State.loadMasks_m2 (s : State) (a b c d : Mask) : (s.loadMasks a b c d).m2 = b := rfl
@[simp] theorem State.loadMasks_m3 (s : State) (a b c d : Mask) : (s.loadMasks a b c d).m3 = c := rfl
@[simp] theorem State.loadMasks_m4 (s : State) (a b c d : Mask) : (s.loadMasks a b c d).m4 = d := rfl
@[simp] theorem State.loadMasks_colon (s : State) (a b c d : Mask) : (s.loadMasks a b c d).colon = s.colon := rfl
@[simp] theorem State.loadMasks_pos (s : State) (a b c d : Mask) : (s.loadMasks a b c d).pos = 1 := rfl
@[simp] theorem State.loadMasks_t0 (s : State) (a b c d : Mask) : (s.loadMasks a b c d).t0 = s.t0 := rfl
@[simp] theorem State.loadMasks_wt (s : State) (a b c d : Mask) : (s.loadMasks a b c d).wt = s.wt := rfl
@[simp] theorem State.loadMasks_idle (s : State) (a b c d : Mask) : (s.loadMasks a b c d).idle = s.idle := rfl
@[simp] theorem State.loadMasks_hold (s : State) (a b c d : Mask) : (s.loadMasks a b c d).hold = s.hold := rfl
@[simp] theorem State.loadMasks_rep (s : State) (a b c d : Mask) : (s.loadMasks a b c d).rep = s.rep := rfl
@[simp] theorem State.loadMasks_txt (s : State) (a b c d : Mask) : (s.loadMasks a b c d).txt = s.txt := rfl
@[simp] theorem State.loadMasks_bi (s : State) (a b c d : Mask) : (s.loadMasks a b c d).bi = s.bi := rfl
@[simp] theorem State.loadMasks_phase (s : State) (a b c d : Mask) : (s.loadMasks a b c d).phase = s.phase := rfl
@[simp] theorem State.loadMasks_ret (s : State) (a b c d : Mask) : (s.loadMasks a b c d).ret = s.ret := rfl
@[simp] theorem State.loadMasks_mode (s : State) (a b c d : Mask) : (s.loadMasks a b c d).mode = s.mode := rfl
@[simp] theorem State.loadMasks_showReq (s : State) (a b c d : Mask) : (s.loadMasks a b c d).showReq = s.showReq := rfl
@[simp] theorem State.loadMasks_ledReq (s : State) (a b c d : Mask) : (s.loadMasks a b c d).ledReq = s.ledReq := rfl
@[simp] theorem State.loadMasks_hit (s : State) (a b c d : Mask) : (s.loadMasks a b c d).hit = s.hit := rfl
@[simp] theorem State.loadMasks_auxp (s : State) (a b c d : Mask) : (s.loadMasks a b c d).auxp = s.auxp := rfl
@[simp] theorem State.loadMasks_tickMask (s : State) (a b c d : Mask) : (s.loadMasks a b c d).tickMask = s.tickMask := rfl
@[simp] theorem State.loadMasks_led (s : State) (a b c d : Mask) : (s.loadMasks a b c d).led = s.led := rfl
@[simp] theorem State.loadMasks_tickOverrun (s : State) (a b c d : Mask) : (s.loadMasks a b c d).tickOverrun = s.tickOverrun := rfl
@[simp] theorem State.loadMasks_cfg (s : State) (a b c d : Mask) : (s.loadMasks a b c d).cfg = s.cfg := rfl
@[simp] theorem State.loadMasks_ip (s : State) (a b c d : Mask) : (s.loadMasks a b c d).ip = s.ip := rfl
@[simp] theorem State.loadMasks_halt (s : State) (a b c d : Mask) : (s.loadMasks a b c d).halt = s.halt := rfl
@[simp] theorem State.loadMasks_ms (s : State) (a b c d : Mask) : (s.loadMasks a b c d).ms = s.ms := rfl
@[simp] theorem State.loadMasks_tcnt (s : State) (a b c d : Mask) : (s.loadMasks a b c d).tcnt = s.tcnt := rfl
@[simp] theorem State.loadMasks_btnN (s : State) (a b c d : Mask) : (s.loadMasks a b c d).btnN = s.btnN := rfl
@[simp] theorem State.loadMasks_aux (s : State) (a b c d : Mask) : (s.loadMasks a b c d).aux = s.aux := rfl
@[simp] theorem State.loadMasks_segN (s : State) (a b c d : Mask) : (s.loadMasks a b c d).segN = s.segN := rfl
@[simp] theorem State.loadMasks_dig (s : State) (a b c d : Mask) : (s.loadMasks a b c d).dig = s.dig := rfl
@[simp] theorem State.loadMasks_colonN (s : State) (a b c d : Mask) : (s.loadMasks a b c d).colonN = s.colonN := rfl
@[simp] theorem State.loadMasks_now (s : State) (a b c d : Mask) : (s.loadMasks a b c d).now = s.now := rfl
@[simp] theorem State.loadMasks_straps (s : State) (a b c d : Mask) : (s.loadMasks a b c d).straps = s.straps := rfl
@[simp] theorem State.loadMasks_sched (s : State) (a b c d : Mask) : (s.loadMasks a b c d).sched = s.sched := rfl
@[simp] theorem State.loadMasks_inputs (s : State) (a b c d : Mask) : (s.loadMasks a b c d).inputs = s.inputs := rfl
@[simp] theorem State.loadMasks_fn (s : State) (a b c d : Mask) : (s.loadMasks a b c d).fn = s.fn := rfl

@[simp] theorem State.clearRequests_sec (s : State) : s.clearRequests.sec = s.sec := rfl
@[simp] theorem State.clearRequests_min (s : State) : s.clearRequests.min = s.min := rfl
@[simp] theorem State.clearRequests_hr (s : State) : s.clearRequests.hr = s.hr := rfl
@[simp] theorem State.clearRequests_m1 (s : State) : s.clearRequests.m1 = s.m1 := rfl
@[simp] theorem State.clearRequests_m2 (s : State) : s.clearRequests.m2 = s.m2 := rfl
@[simp] theorem State.clearRequests_m3 (s : State) : s.clearRequests.m3 = s.m3 := rfl
@[simp] theorem State.clearRequests_m4 (s : State) : s.clearRequests.m4 = s.m4 := rfl
@[simp] theorem State.clearRequests_colon (s : State) : s.clearRequests.colon = s.colon := rfl
@[simp] theorem State.clearRequests_pos (s : State) : s.clearRequests.pos = s.pos := rfl
@[simp] theorem State.clearRequests_t0 (s : State) : s.clearRequests.t0 = s.t0 := rfl
@[simp] theorem State.clearRequests_wt (s : State) : s.clearRequests.wt = s.wt := rfl
@[simp] theorem State.clearRequests_idle (s : State) : s.clearRequests.idle = s.idle := rfl
@[simp] theorem State.clearRequests_hold (s : State) : s.clearRequests.hold = s.hold := rfl
@[simp] theorem State.clearRequests_rep (s : State) : s.clearRequests.rep = s.rep := rfl
@[simp] theorem State.clearRequests_txt (s : State) : s.clearRequests.txt = s.txt := rfl
@[simp] theorem State.clearRequests_bi (s : State) : s.clearRequests.bi = s.bi := rfl
@[simp] theorem State.clearRequests_phase (s : State) : s.clearRequests.phase = s.phase := rfl
@[simp] theorem State.clearRequests_ret (s : State) : s.clearRequests.ret = s.ret := rfl
@[simp] theorem State.clearRequests_mode (s : State) : s.clearRequests.mode = s.mode := rfl
@[simp] theorem State.clearRequests_showReq (s : State) : s.clearRequests.showReq = false := rfl
@[simp] theorem State.clearRequests_ledReq (s : State) : s.clearRequests.ledReq = false := rfl
@[simp] theorem State.clearRequests_hit (s : State) : s.clearRequests.hit = s.hit := rfl
@[simp] theorem State.clearRequests_auxp (s : State) : s.clearRequests.auxp = s.auxp := rfl
@[simp] theorem State.clearRequests_tickMask (s : State) : s.clearRequests.tickMask = s.tickMask := rfl
@[simp] theorem State.clearRequests_led (s : State) : s.clearRequests.led = s.led := rfl
@[simp] theorem State.clearRequests_tickOverrun (s : State) : s.clearRequests.tickOverrun = s.tickOverrun := rfl
@[simp] theorem State.clearRequests_cfg (s : State) : s.clearRequests.cfg = s.cfg := rfl
@[simp] theorem State.clearRequests_ip (s : State) : s.clearRequests.ip = s.ip := rfl
@[simp] theorem State.clearRequests_halt (s : State) : s.clearRequests.halt = s.halt := rfl
@[simp] theorem State.clearRequests_ms (s : State) : s.clearRequests.ms = s.ms := rfl
@[simp] theorem State.clearRequests_tcnt (s : State) : s.clearRequests.tcnt = s.tcnt := rfl
@[simp] theorem State.clearRequests_btnN (s : State) : s.clearRequests.btnN = s.btnN := rfl
@[simp] theorem State.clearRequests_aux (s : State) : s.clearRequests.aux = s.aux := rfl
@[simp] theorem State.clearRequests_segN (s : State) : s.clearRequests.segN = s.segN := rfl
@[simp] theorem State.clearRequests_dig (s : State) : s.clearRequests.dig = s.dig := rfl
@[simp] theorem State.clearRequests_colonN (s : State) : s.clearRequests.colonN = s.colonN := rfl
@[simp] theorem State.clearRequests_now (s : State) : s.clearRequests.now = s.now := rfl
@[simp] theorem State.clearRequests_straps (s : State) : s.clearRequests.straps = s.straps := rfl
@[simp] theorem State.clearRequests_sched (s : State) : s.clearRequests.sched = s.sched := rfl
@[simp] theorem State.clearRequests_inputs (s : State) : s.clearRequests.inputs = s.inputs := rfl
@[simp] theorem State.clearRequests_fn (s : State) : s.clearRequests.fn = s.fn := rfl

@[simp] theorem State.setPending_sec (s : State) (n : Nat) : (s.setPending n).sec = s.sec := rfl
@[simp] theorem State.setPending_min (s : State) (n : Nat) : (s.setPending n).min = s.min := rfl
@[simp] theorem State.setPending_hr (s : State) (n : Nat) : (s.setPending n).hr = s.hr := rfl
@[simp] theorem State.setPending_m1 (s : State) (n : Nat) : (s.setPending n).m1 = s.m1 := rfl
@[simp] theorem State.setPending_m2 (s : State) (n : Nat) : (s.setPending n).m2 = s.m2 := rfl
@[simp] theorem State.setPending_m3 (s : State) (n : Nat) : (s.setPending n).m3 = s.m3 := rfl
@[simp] theorem State.setPending_m4 (s : State) (n : Nat) : (s.setPending n).m4 = s.m4 := rfl
@[simp] theorem State.setPending_colon (s : State) (n : Nat) : (s.setPending n).colon = s.colon := rfl
@[simp] theorem State.setPending_pos (s : State) (n : Nat) : (s.setPending n).pos = s.pos := rfl
@[simp] theorem State.setPending_t0 (s : State) (n : Nat) : (s.setPending n).t0 = s.t0 := rfl
@[simp] theorem State.setPending_wt (s : State) (n : Nat) : (s.setPending n).wt = s.wt := rfl
@[simp] theorem State.setPending_idle (s : State) (n : Nat) : (s.setPending n).idle = s.idle := rfl
@[simp] theorem State.setPending_hold (s : State) (n : Nat) : (s.setPending n).hold = s.hold := rfl
@[simp] theorem State.setPending_rep (s : State) (n : Nat) : (s.setPending n).rep = s.rep := rfl
@[simp] theorem State.setPending_txt (s : State) (n : Nat) : (s.setPending n).txt = s.txt := rfl
@[simp] theorem State.setPending_bi (s : State) (n : Nat) : (s.setPending n).bi = s.bi := rfl
@[simp] theorem State.setPending_phase (s : State) (n : Nat) : (s.setPending n).phase = s.phase := rfl
@[simp] theorem State.setPending_ret (s : State) (n : Nat) : (s.setPending n).ret = s.ret := rfl
@[simp] theorem State.setPending_mode (s : State) (n : Nat) : (s.setPending n).mode = s.mode := rfl
@[simp] theorem State.setPending_showReq (s : State) (n : Nat) : (s.setPending n).showReq = s.showReq := rfl
@[simp] theorem State.setPending_ledReq (s : State) (n : Nat) : (s.setPending n).ledReq = s.ledReq := rfl
@[simp] theorem State.setPending_hit (s : State) (n : Nat) : (s.setPending n).hit = s.hit := rfl
@[simp] theorem State.setPending_auxp (s : State) (n : Nat) : (s.setPending n).auxp = s.auxp := rfl
@[simp] theorem State.setPending_tickMask (s : State) (n : Nat) : (s.setPending n).tickMask = s.tickMask := rfl
@[simp] theorem State.setPending_led (s : State) (n : Nat) : (s.setPending n).led = s.led := rfl
@[simp] theorem State.setPending_tickOverrun (s : State) (n : Nat) : (s.setPending n).tickOverrun = s.tickOverrun := rfl
@[simp] theorem State.setPending_cfg (s : State) (n : Nat) : (s.setPending n).cfg = s.cfg := rfl
@[simp] theorem State.setPending_ip (s : State) (n : Nat) : (s.setPending n).ip = s.ip ||| ipBit n := rfl
@[simp] theorem State.setPending_halt (s : State) (n : Nat) : (s.setPending n).halt = s.halt := rfl
@[simp] theorem State.setPending_ms (s : State) (n : Nat) : (s.setPending n).ms = s.ms := rfl
@[simp] theorem State.setPending_tcnt (s : State) (n : Nat) : (s.setPending n).tcnt = s.tcnt := rfl
@[simp] theorem State.setPending_btnN (s : State) (n : Nat) : (s.setPending n).btnN = s.btnN := rfl
@[simp] theorem State.setPending_aux (s : State) (n : Nat) : (s.setPending n).aux = s.aux := rfl
@[simp] theorem State.setPending_segN (s : State) (n : Nat) : (s.setPending n).segN = s.segN := rfl
@[simp] theorem State.setPending_dig (s : State) (n : Nat) : (s.setPending n).dig = s.dig := rfl
@[simp] theorem State.setPending_colonN (s : State) (n : Nat) : (s.setPending n).colonN = s.colonN := rfl
@[simp] theorem State.setPending_now (s : State) (n : Nat) : (s.setPending n).now = s.now := rfl
@[simp] theorem State.setPending_straps (s : State) (n : Nat) : (s.setPending n).straps = s.straps := rfl
@[simp] theorem State.setPending_sched (s : State) (n : Nat) : (s.setPending n).sched = s.sched := rfl
@[simp] theorem State.setPending_inputs (s : State) (n : Nat) : (s.setPending n).inputs = s.inputs := rfl
@[simp] theorem State.setPending_fn (s : State) (n : Nat) : (s.setPending n).fn = s.fn := rfl

@[simp] theorem State.clearPending_sec (s : State) (n : Nat) : (s.clearPending n).sec = s.sec := rfl
@[simp] theorem State.clearPending_min (s : State) (n : Nat) : (s.clearPending n).min = s.min := rfl
@[simp] theorem State.clearPending_hr (s : State) (n : Nat) : (s.clearPending n).hr = s.hr := rfl
@[simp] theorem State.clearPending_m1 (s : State) (n : Nat) : (s.clearPending n).m1 = s.m1 := rfl
@[simp] theorem State.clearPending_m2 (s : State) (n : Nat) : (s.clearPending n).m2 = s.m2 := rfl
@[simp] theorem State.clearPending_m3 (s : State) (n : Nat) : (s.clearPending n).m3 = s.m3 := rfl
@[simp] theorem State.clearPending_m4 (s : State) (n : Nat) : (s.clearPending n).m4 = s.m4 := rfl
@[simp] theorem State.clearPending_colon (s : State) (n : Nat) : (s.clearPending n).colon = s.colon := rfl
@[simp] theorem State.clearPending_pos (s : State) (n : Nat) : (s.clearPending n).pos = s.pos := rfl
@[simp] theorem State.clearPending_t0 (s : State) (n : Nat) : (s.clearPending n).t0 = s.t0 := rfl
@[simp] theorem State.clearPending_wt (s : State) (n : Nat) : (s.clearPending n).wt = s.wt := rfl
@[simp] theorem State.clearPending_idle (s : State) (n : Nat) : (s.clearPending n).idle = s.idle := rfl
@[simp] theorem State.clearPending_hold (s : State) (n : Nat) : (s.clearPending n).hold = s.hold := rfl
@[simp] theorem State.clearPending_rep (s : State) (n : Nat) : (s.clearPending n).rep = s.rep := rfl
@[simp] theorem State.clearPending_txt (s : State) (n : Nat) : (s.clearPending n).txt = s.txt := rfl
@[simp] theorem State.clearPending_bi (s : State) (n : Nat) : (s.clearPending n).bi = s.bi := rfl
@[simp] theorem State.clearPending_phase (s : State) (n : Nat) : (s.clearPending n).phase = s.phase := rfl
@[simp] theorem State.clearPending_ret (s : State) (n : Nat) : (s.clearPending n).ret = s.ret := rfl
@[simp] theorem State.clearPending_mode (s : State) (n : Nat) : (s.clearPending n).mode = s.mode := rfl
@[simp] theorem State.clearPending_showReq (s : State) (n : Nat) : (s.clearPending n).showReq = s.showReq := rfl
@[simp] theorem State.clearPending_ledReq (s : State) (n : Nat) : (s.clearPending n).ledReq = s.ledReq := rfl
@[simp] theorem State.clearPending_hit (s : State) (n : Nat) : (s.clearPending n).hit = s.hit := rfl
@[simp] theorem State.clearPending_auxp (s : State) (n : Nat) : (s.clearPending n).auxp = s.auxp := rfl
@[simp] theorem State.clearPending_tickMask (s : State) (n : Nat) : (s.clearPending n).tickMask = s.tickMask := rfl
@[simp] theorem State.clearPending_led (s : State) (n : Nat) : (s.clearPending n).led = s.led := rfl
@[simp] theorem State.clearPending_tickOverrun (s : State) (n : Nat) : (s.clearPending n).tickOverrun = s.tickOverrun := rfl
@[simp] theorem State.clearPending_cfg (s : State) (n : Nat) : (s.clearPending n).cfg = s.cfg := rfl
@[simp] theorem State.clearPending_ip (s : State) (n : Nat) : (s.clearPending n).ip = s.ip &&& ~~~ ipBit n := rfl
@[simp] theorem State.clearPending_halt (s : State) (n : Nat) : (s.clearPending n).halt = s.halt := rfl
@[simp] theorem State.clearPending_ms (s : State) (n : Nat) : (s.clearPending n).ms = s.ms := rfl
@[simp] theorem State.clearPending_tcnt (s : State) (n : Nat) : (s.clearPending n).tcnt = s.tcnt := rfl
@[simp] theorem State.clearPending_btnN (s : State) (n : Nat) : (s.clearPending n).btnN = s.btnN := rfl
@[simp] theorem State.clearPending_aux (s : State) (n : Nat) : (s.clearPending n).aux = s.aux := rfl
@[simp] theorem State.clearPending_segN (s : State) (n : Nat) : (s.clearPending n).segN = s.segN := rfl
@[simp] theorem State.clearPending_dig (s : State) (n : Nat) : (s.clearPending n).dig = s.dig := rfl
@[simp] theorem State.clearPending_colonN (s : State) (n : Nat) : (s.clearPending n).colonN = s.colonN := rfl
@[simp] theorem State.clearPending_now (s : State) (n : Nat) : (s.clearPending n).now = s.now := rfl
@[simp] theorem State.clearPending_straps (s : State) (n : Nat) : (s.clearPending n).straps = s.straps := rfl
@[simp] theorem State.clearPending_sched (s : State) (n : Nat) : (s.clearPending n).sched = s.sched := rfl
@[simp] theorem State.clearPending_inputs (s : State) (n : Nat) : (s.clearPending n).inputs = s.inputs := rfl
@[simp] theorem State.clearPending_fn (s : State) (n : Nat) : (s.clearPending n).fn = s.fn := rfl

@[simp] theorem State.passTime_sec (s : State) (dt : Nat) : (s.passTime dt).sec = s.sec := rfl
@[simp] theorem State.passTime_min (s : State) (dt : Nat) : (s.passTime dt).min = s.min := rfl
@[simp] theorem State.passTime_hr (s : State) (dt : Nat) : (s.passTime dt).hr = s.hr := rfl
@[simp] theorem State.passTime_m1 (s : State) (dt : Nat) : (s.passTime dt).m1 = s.m1 := rfl
@[simp] theorem State.passTime_m2 (s : State) (dt : Nat) : (s.passTime dt).m2 = s.m2 := rfl
@[simp] theorem State.passTime_m3 (s : State) (dt : Nat) : (s.passTime dt).m3 = s.m3 := rfl
@[simp] theorem State.passTime_m4 (s : State) (dt : Nat) : (s.passTime dt).m4 = s.m4 := rfl
@[simp] theorem State.passTime_colon (s : State) (dt : Nat) : (s.passTime dt).colon = s.colon := rfl
@[simp] theorem State.passTime_pos (s : State) (dt : Nat) : (s.passTime dt).pos = s.pos := rfl
@[simp] theorem State.passTime_t0 (s : State) (dt : Nat) : (s.passTime dt).t0 = s.t0 := rfl
@[simp] theorem State.passTime_wt (s : State) (dt : Nat) : (s.passTime dt).wt = BitVec.ofNat 32 (s.wt.toNat - dt) := rfl
@[simp] theorem State.passTime_idle (s : State) (dt : Nat) : (s.passTime dt).idle = s.idle := rfl
@[simp] theorem State.passTime_hold (s : State) (dt : Nat) : (s.passTime dt).hold = s.hold := rfl
@[simp] theorem State.passTime_rep (s : State) (dt : Nat) : (s.passTime dt).rep = s.rep := rfl
@[simp] theorem State.passTime_txt (s : State) (dt : Nat) : (s.passTime dt).txt = s.txt := rfl
@[simp] theorem State.passTime_bi (s : State) (dt : Nat) : (s.passTime dt).bi = s.bi := rfl
@[simp] theorem State.passTime_phase (s : State) (dt : Nat) : (s.passTime dt).phase = s.phase := rfl
@[simp] theorem State.passTime_ret (s : State) (dt : Nat) : (s.passTime dt).ret = s.ret := rfl
@[simp] theorem State.passTime_mode (s : State) (dt : Nat) : (s.passTime dt).mode = s.mode := rfl
@[simp] theorem State.passTime_showReq (s : State) (dt : Nat) : (s.passTime dt).showReq = s.showReq := rfl
@[simp] theorem State.passTime_ledReq (s : State) (dt : Nat) : (s.passTime dt).ledReq = s.ledReq := rfl
@[simp] theorem State.passTime_hit (s : State) (dt : Nat) : (s.passTime dt).hit = s.hit := rfl
@[simp] theorem State.passTime_auxp (s : State) (dt : Nat) : (s.passTime dt).auxp = s.auxp := rfl
@[simp] theorem State.passTime_tickMask (s : State) (dt : Nat) : (s.passTime dt).tickMask = s.tickMask := rfl
@[simp] theorem State.passTime_led (s : State) (dt : Nat) : (s.passTime dt).led = s.led := rfl
@[simp] theorem State.passTime_tickOverrun (s : State) (dt : Nat) : (s.passTime dt).tickOverrun = s.tickOverrun := rfl
@[simp] theorem State.passTime_cfg (s : State) (dt : Nat) : (s.passTime dt).cfg = s.cfg := rfl
@[simp] theorem State.passTime_ip (s : State) (dt : Nat) : (s.passTime dt).ip = s.ip := rfl
@[simp] theorem State.passTime_halt (s : State) (dt : Nat) : (s.passTime dt).halt = s.halt := rfl
@[simp] theorem State.passTime_ms (s : State) (dt : Nat) : (s.passTime dt).ms = BitVec.ofNat 32 ((s.now + dt) / 1000) := rfl
@[simp] theorem State.passTime_tcnt (s : State) (dt : Nat) : (s.passTime dt).tcnt = s.tcnt := rfl
@[simp] theorem State.passTime_btnN (s : State) (dt : Nat) : (s.passTime dt).btnN = s.btnN := rfl
@[simp] theorem State.passTime_aux (s : State) (dt : Nat) : (s.passTime dt).aux = s.aux := rfl
@[simp] theorem State.passTime_segN (s : State) (dt : Nat) : (s.passTime dt).segN = s.segN := rfl
@[simp] theorem State.passTime_dig (s : State) (dt : Nat) : (s.passTime dt).dig = s.dig := rfl
@[simp] theorem State.passTime_colonN (s : State) (dt : Nat) : (s.passTime dt).colonN = s.colonN := rfl
@[simp] theorem State.passTime_now (s : State) (dt : Nat) : (s.passTime dt).now = s.now + dt := rfl
@[simp] theorem State.passTime_straps (s : State) (dt : Nat) : (s.passTime dt).straps = s.straps := rfl
@[simp] theorem State.passTime_sched (s : State) (dt : Nat) : (s.passTime dt).sched = s.sched := rfl
@[simp] theorem State.passTime_inputs (s : State) (dt : Nat) : (s.passTime dt).inputs = s.inputs := rfl
@[simp] theorem State.passTime_fn (s : State) (dt : Nat) : (s.passTime dt).fn = s.fn := rfl

end Sys2Proof.Machine
end

