-- ==== Sys2Proof/Laws/Ops.lean ====
section
/-! SUPPORT. What each shared operation can do, said once. -/
namespace Sys2Proof.Machine

/-- A step that may be held answers a next state: the step's own where it is enabled, the same state where it is not. -/
theorem takeWhen_eq_next (e : Bool) (t s : State) : takeWhen e t s = .next (if e then t else s) := by
  cases e <;> rfl

theorem takeWhen_cases {e : Bool} {t s u : State} (h : takeWhen e t s = .next u) :
    (e = true ∧ u = t) ∨ (e = false ∧ u = s) := by
  cases e <;> simp_all [takeWhen]

/-- A MAIN step is enabled where MAIN runs, PHASE selects it and its own condition holds. -/
theorem mainEnabled_iff (s : State) (p : Phase) :
    s.mainEnabled p = true ↔ s.halt = false ∧ s.phase = p ∧ s.phaseReady p = true := by
  simp [State.mainEnabled, and_assoc]

/-- What a MAIN step can do: its effect where it is enabled, nothing where MAIN is held. -/
theorem mainStep_cases {p : Phase} {t s u : State} (h : mainStep p t s = .next u) :
    (s.halt = false ∧ s.phase = p ∧ s.phaseReady p = true ∧ u = t) ∨ (s.mainEnabled p = false ∧ u = s) := by
  rcases takeWhen_cases h with ⟨e, rfl⟩ | ⟨e, rfl⟩
  · exact .inl (by simpa [and_assoc] using (mainEnabled_iff s p).1 e)
  · exact .inr ⟨e, rfl⟩

/-- An enabled MAIN step takes its effect. -/
theorem mainStep_taken {p : Phase} {s : State} (hh : s.halt = false) (hp : s.phase = p) (hr : s.phaseReady p = true)
    (t : State) : mainStep p t s = .next t := by
  simp [mainStep, takeWhen, (mainEnabled_iff s p).2 ⟨hh, hp, hr⟩]

/-- A MAIN step that is not enabled changes nothing. -/
theorem mainStep_held {p : Phase} {s : State} (h : s.mainEnabled p = false) (t : State) : mainStep p t s = .next s := by
  simp [mainStep, takeWhen, h]

/-- The phases that wait for nothing are always ready. -/
theorem phaseReady_free {s : State} {p : Phase} (h : waitsForTimer p = false) (h1 : p ≠ phShwDb0) (h2 : p ≠ phShwDb2)
    (h3 : p ≠ phLedDb0) (h4 : p ≠ phLedDb2) (h5 : p ≠ phLedLoop) : s.phaseReady p = true := by
  have ne : ∀ q : Phase, p ≠ q → (p == q) = false := fun q hq => beq_eq_false_iff_ne.2 hq
  simp only [State.phaseReady, h, ne _ h1, ne _ h2, ne _ h3, ne _ h4, ne _ h5, Bool.or_false, Bool.false_eq_true, if_false]

/-- The phases of a timed wait are ready when WT has run out. -/
theorem phaseReady_timer {s : State} {p : Phase} (h : waitsForTimer p = true) : s.phaseReady p = (s.wt == 0) := by
  simp [State.phaseReady, h]

/-- What a handler step can do: its body with the pending bit and HALT cleared, or nothing. -/
theorem handlerStep_cases {n : Nat} {body : State → State} {s u : State} (h : handlerStep n body s = .next u) :
    (s.irqEnabled n = true ∧ u = { (body s).clearPending n with halt := false }) ∨ (s.irqEnabled n = false ∧ u = s) := by
  rcases takeWhen_cases h with ⟨e, rfl⟩ | ⟨e, rfl⟩
  · exact .inl ⟨e, rfl⟩
  · exact .inr ⟨e, rfl⟩

/-- What TICK_RAISE can do. -/
theorem tickRaise_cases (s : State) :
    (s.pending srcTick = true ∧ s.tickRaise = { s with tickOverrun := true }) ∨
      (s.pending srcTick = false ∧ s.tickRaise = s.setPending srcTick) := by
  unfold State.tickRaise
  cases h : s.pending srcTick <;> simp

/-- What ADVANCE can do to the state: the counters, and at the boundary the tick. -/
theorem advanceBy_cases (s : State) (dt : Nat) :
    (s.tcnt.toNat + dt = s.cfg.periodUs ∧ s.advanceBy dt = { s.passTime dt with tcnt := 0 }.tickRaise) ∨
      (s.tcnt.toNat + dt ≠ s.cfg.periodUs ∧
        s.advanceBy dt = { s.passTime dt with tcnt := BitVec.ofNat 28 (s.tcnt.toNat + dt) }) := by
  by_cases h : s.tcnt.toNat + dt = s.cfg.periodUs
  · exact .inl ⟨h, by simp [State.advanceBy, h]⟩
  · exact .inr ⟨h, by simp [State.advanceBy, h]⟩

/-- ADVANCE is enabled for a positive time that skips no boundary. -/
theorem advanceEnabled_iff (s : State) (dt : Nat) :
    s.advanceEnabled dt = true ↔ 1 ≤ dt ∧ s.tcnt.toNat + dt ≤ s.cfg.periodUs := by
  simp [State.advanceEnabled]

/-- The polarity stage is the complement. -/
@[simp] theorem driveSeg_eq (m : Mask) : driveSeg m = ~~~m := by simp [driveSeg, segmentOn]

/-- The colon through the polarity stage. -/
@[simp] theorem driveColon_eq (c : Bool) : driveColon c = !c := by simp [driveColon, segmentOn]

/-- Writing a time whose fields fit the registers and reading it back. -/
theorem setTime_time {s : State} {t : Time} (hs : t.s < 64) (hm : t.m < 64) (hh : t.h < 32) : (s.setTime t).time = t := by
  simp [State.time, Nat.mod_eq_of_lt, hs, hm, hh]

end Sys2Proof.Machine
end

