-- ==== Sys2Proof/Laws/PerInstr.lean ====
section
/-! SUPPORT. The family RoundTrip of per-instruction facts: the words of an operation decode to it, whatever words follow. -/
namespace Sys2Proof.Laws.RoundTrip

/-- Decoding the words of a well-formed operation gives it back and leaves the words after them (R98, R107). -/
def Statement (i : Instr) : Prop := i.wf = true → ∀ rest, decode (encode i ++ rest) = .ok (i, rest)

theorem slpEval : Statement .slpEval := fun _ _ => rfl
theorem shwDb0 : Statement .shwDb0 := fun _ _ => rfl
theorem shwDb1 : Statement .shwDb1 := fun _ _ => rfl
theorem shwDb2 : Statement .shwDb2 := fun _ _ => rfl
theorem shwBegin : Statement .shwBegin := fun _ _ => rfl
theorem shwHead : Statement .shwHead := fun _ _ => rfl
theorem shwDark : Statement .shwDark := fun _ _ => rfl
theorem shwDarkw : Statement .shwDarkw := fun _ _ => rfl
theorem shwPoll : Statement .shwPoll := fun _ _ => rfl
theorem shwExpire : Statement .shwExpire := fun _ _ => rfl
theorem exitOff : Statement .exitOff := fun _ _ => rfl
theorem setBegin : Statement .setBegin := fun _ _ => rfl
theorem setHead : Statement .setHead := fun _ _ => rfl
theorem setBlink : Statement .setBlink := fun _ _ => rfl
theorem setBdark : Statement .setBdark := fun _ _ => rfl
theorem setBdarkw : Statement .setBdarkw := fun _ _ => rfl
theorem setPoll : Statement .setPoll := fun _ _ => rfl
theorem setLock : Statement .setLock := fun _ _ => rfl
theorem setMut : Statement .setMut := fun _ _ => rfl
theorem setUnlock : Statement .setUnlock := fun _ _ => rfl
theorem setAcc : Statement .setAcc := fun _ _ => rfl
theorem ledDb0 : Statement .ledDb0 := fun _ _ => rfl
theorem ledDb1 : Statement .ledDb1 := fun _ _ => rfl
theorem ledDb2 : Statement .ledDb2 := fun _ _ => rfl
theorem ledBegin : Statement .ledBegin := fun _ _ => rfl
theorem ledLoop : Statement .ledLoop := fun _ _ => rfl
theorem ledExit : Statement .ledExit := fun _ _ => rfl
theorem rnSnap : Statement .rnSnap := fun _ _ => rfl
theorem rgLoad : Statement .rgLoad := fun _ _ => rfl
theorem ddOn : Statement .ddOn := fun _ _ => rfl
theorem ddHold : Statement .ddHold := fun _ _ => rfl
theorem ddOff : Statement .ddOff := fun _ _ => rfl
theorem bootHead : Statement .bootHead := fun _ _ => rfl
theorem bootFrame : Statement .bootFrame := fun _ _ => rfl
theorem bootDark : Statement .bootDark := fun _ _ => rfl
theorem bootDarkw : Statement .bootDarkw := fun _ _ => rfl
theorem irqTick : Statement .irqTick := fun _ _ => rfl
theorem irqBtn : Statement .irqBtn := fun _ _ => rfl
theorem irqAux : Statement .irqAux := fun _ _ => rfl
theorem advance (dt : Nat) : Statement (.advance dt) := fun _ _ => rfl
theorem btnPress : Statement .btnPress := fun _ _ => rfl
theorem btnRelease : Statement .btnRelease := fun _ _ => rfl
theorem auxPress : Statement .auxPress := fun _ _ => rfl
theorem auxRelease : Statement .auxRelease := fun _ _ => rfl
theorem reset : Statement .reset := fun _ _ => rfl
theorem tickRaise : Statement .tickRaise := fun _ _ => rfl
theorem encDigit : Statement .encDigit := fun _ _ => rfl
theorem encGlyph : Statement .encGlyph := fun _ _ => rfl
theorem driveSeg : Statement .driveSeg := fun _ _ => rfl
theorem bcd4 : Statement .bcd4 := fun _ _ => rfl
theorem normalize : Statement .normalize := fun _ _ => rfl
theorem timevalue : Statement .timevalue := fun _ _ => rfl
theorem tickFn : Statement .tickFn := fun _ _ => rfl
theorem incFn : Statement .incFn := fun _ _ => rfl
theorem jumpFn : Statement .jumpFn := fun _ _ => rfl
theorem digit0 : Statement .digit0 := fun _ _ => rfl
theorem digit1 : Statement .digit1 := fun _ _ => rfl
theorem digit2 : Statement .digit2 := fun _ _ => rfl
theorem digit3 : Statement .digit3 := fun _ _ => rfl
theorem digit4 : Statement .digit4 := fun _ _ => rfl
theorem digit5 : Statement .digit5 := fun _ _ => rfl
theorem digit6 : Statement .digit6 := fun _ _ => rfl
theorem digit7 : Statement .digit7 := fun _ _ => rfl
theorem digit8 : Statement .digit8 := fun _ _ => rfl
theorem digit9 : Statement .digit9 := fun _ _ => rfl
theorem blank : Statement .blank := fun _ _ => rfl
theorem undef11 : Statement .undef11 := fun _ _ => rfl
theorem undef12 : Statement .undef12 := fun _ _ => rfl
theorem undef13 : Statement .undef13 := fun _ _ => rfl
theorem undef14 : Statement .undef14 := fun _ _ => rfl
theorem undef15 : Statement .undef15 := fun _ _ => rfl
theorem glyphSpace : Statement .glyphSpace := fun _ _ => rfl
theorem glyphMinus : Statement .glyphMinus := fun _ _ => rfl
theorem glyph0 : Statement .glyph0 := fun _ _ => rfl
theorem glyph1 : Statement .glyph1 := fun _ _ => rfl
theorem glyph2 : Statement .glyph2 := fun _ _ => rfl
theorem glyph3 : Statement .glyph3 := fun _ _ => rfl
theorem glyph4 : Statement .glyph4 := fun _ _ => rfl
theorem glyph5 : Statement .glyph5 := fun _ _ => rfl
theorem glyph6 : Statement .glyph6 := fun _ _ => rfl
theorem glyph7 : Statement .glyph7 := fun _ _ => rfl
theorem glyph8 : Statement .glyph8 := fun _ _ => rfl
theorem glyph9 : Statement .glyph9 := fun _ _ => rfl
theorem glyphUpA : Statement .glyphUpA := fun _ _ => rfl
theorem glyphUpC : Statement .glyphUpC := fun _ _ => rfl
theorem glyphUpE : Statement .glyphUpE := fun _ _ => rfl
theorem glyphUpF : Statement .glyphUpF := fun _ _ => rfl
theorem glyphUpH : Statement .glyphUpH := fun _ _ => rfl
theorem glyphUpL : Statement .glyphUpL := fun _ _ => rfl
theorem glyphUpP : Statement .glyphUpP := fun _ _ => rfl
theorem glyphUpS : Statement .glyphUpS := fun _ _ => rfl
theorem glyphUpU : Statement .glyphUpU := fun _ _ => rfl
theorem glyphLowB : Statement .glyphLowB := fun _ _ => rfl
theorem glyphLowC : Statement .glyphLowC := fun _ _ => rfl
theorem glyphLowD : Statement .glyphLowD := fun _ _ => rfl
theorem glyphLowH : Statement .glyphLowH := fun _ _ => rfl
theorem glyphLowN : Statement .glyphLowN := fun _ _ => rfl
theorem glyphLowO : Statement .glyphLowO := fun _ _ => rfl
theorem glyphLowR : Statement .glyphLowR := fun _ _ => rfl
theorem glyphLowT : Statement .glyphLowT := fun _ _ => rfl
theorem glyphLowU : Statement .glyphLowU := fun _ _ => rfl
theorem glyphLowY : Statement .glyphLowY := fun _ _ => rfl

/-- A character code without a row decodes to no row. -/
theorem decodeGSym_of_wfGlyphOf : ∀ c : GSym, wfGlyphOf c = true → decodeGSym c = none := by decide

theorem encGlyphOf (c : GSym) : Statement (.encGlyphOf c) := fun h rest => by
  simp [encode, decode, decodeGlyph, decodeGSym_of_wfGlyphOf c h]

end Sys2Proof.Laws.RoundTrip
end

