-- ==== Sys2Proof/Laws/Rom.lean ====
section
/-! SUPPORT. The glyph table as a memory: the one operation that defines an address keeps the canonical form, and reads back. -/
namespace Sys2Proof

/-- The tail of a table in canonical form is in canonical form. -/
theorem Memory.wf_tail {a : Nat} {w : Mask} {rest : GlyphTable} (h : Memory.wf ((a, w) :: rest) = true) :
    Memory.wf rest = true := by
  cases rest with
  | nil => rfl
  | cons e rest => simp_all [Memory.wf]

/-- No entry of a table in canonical form is listed for nothing, and the first address is within 8 bits. -/
theorem Memory.wf_head {a : Nat} {w : Mask} {rest : GlyphTable} (h : Memory.wf ((a, w) :: rest) = true) : w ≠ 0 ∧ a < 256 := by
  induction rest generalizing a w with
  | nil => simp_all [Memory.wf]
  | cons e rest ih =>
    obtain ⟨b, v⟩ := e
    simp only [Memory.wf, Bool.and_eq_true, decide_eq_true_eq] at h
    exact ⟨h.1.2, lt_trans h.1.1 (ih h.2).2⟩

/-- A table one can put an entry before: its first address lies above. -/
theorem Memory.wf_cons {a : Nat} {w : Mask} {rest : GlyphTable} (hw : w ≠ 0) (ha : a < 256) (hr : Memory.wf rest = true)
    (hlt : ∀ b v r, rest = (b, v) :: r → a < b) : Memory.wf ((a, w) :: rest) = true := by
  cases rest with
  | nil => simpa [Memory.wf, ha] using hw
  | cons e rest =>
    obtain ⟨b, v⟩ := e
    simpa [Memory.wf, hr, hlt b v rest rfl] using hw

/-- The first address after defining a is a itself or the first one there was. -/
theorem Memory.define_first {m : GlyphTable} {a x : Nat} {w : Mask} (hx : x < a) (hm : ∀ b v r, m = (b, v) :: r → x < b)
    (hwf : Memory.wf m = true) : ∀ b v r, Memory.define m a w = (b, v) :: r → x < b := by
  intro b v r h
  match m, hm, hwf with
  | [], _, _ =>
    unfold Memory.define at h
    split at h <;> simp_all
  | (c, u) :: rest, hm, hwf =>
    have hc := hm c u rest rfl
    unfold Memory.define at h
    split at h
    · split at h <;> simp only [List.cons.injEq, Prod.mk.injEq] at h <;> omega
    · split at h
      · split at h
        · cases rest with
          | nil => simp at h
          | cons e rest =>
            obtain ⟨d, z⟩ := e
            simp only [Memory.wf, Bool.and_eq_true, decide_eq_true_eq] at hwf
            simp only [List.cons.injEq, Prod.mk.injEq] at h
            omega
        · simp only [List.cons.injEq, Prod.mk.injEq] at h
          omega
      · simp only [List.cons.injEq, Prod.mk.injEq] at h
        omega

/-- Defining an address keeps the canonical form. -/
theorem Memory.define_wf {m : GlyphTable} {a : Nat} {w : Mask} (h : Memory.wf m = true) (ha : a < 256) :
    Memory.wf (Memory.define m a w) = true := by
  induction m with
  | nil =>
    unfold Memory.define
    split
    · rfl
    · exact Memory.wf_cons ‹_› ha rfl (by simp)
  | cons e rest ih =>
    obtain ⟨b, v⟩ := e
    have hh := Memory.wf_head h
    have ht := Memory.wf_tail h
    unfold Memory.define
    split
    · split
      · exact h
      · exact Memory.wf_cons ‹_› ha h (by simp_all)
    · split
      · split
        · exact ht
        · rename_i hab hw
          subst hab
          refine Memory.wf_cons hw ha ht fun c u r hr => ?_
          subst hr
          simp only [Memory.wf, Bool.and_eq_true, decide_eq_true_eq] at h
          exact h.1.1
      · rename_i h1 h2
        refine Memory.wf_cons hh.1 hh.2 (ih ht) ?_
        refine Memory.define_first (by omega) (fun c u r hr => ?_) ht
        subst hr
        simp only [Memory.wf, Bool.and_eq_true, decide_eq_true_eq] at h
        exact h.1.1

/-- An address below every listed one reads as all segments off. -/
theorem Memory.read_below {m : GlyphTable} {a : Nat} (h : Memory.wf m = true) (hlt : ∀ b v r, m = (b, v) :: r → a < b) :
    Memory.read m a = 0 := by
  induction m with
  | nil => rfl
  | cons e rest ih =>
    obtain ⟨b, v⟩ := e
    have hb := hlt b v rest rfl
    rw [Memory.read, if_neg (by omega)]
    refine ih (Memory.wf_tail h) fun c u r hr => ?_
    subst hr
    simp only [Memory.wf, Bool.and_eq_true, decide_eq_true_eq] at h
    omega

/-- An address reads back the mask it was defined as, and every other address as before. -/
theorem Memory.read_define {m : GlyphTable} {a x : Nat} {w : Mask} (h : Memory.wf m = true) :
    Memory.read (Memory.define m a w) x = if x = a then w else Memory.read m x := by
  induction m with
  | nil =>
    unfold Memory.define
    split <;> simp_all [Memory.read]
  | cons e rest ih =>
    obtain ⟨b, v⟩ := e
    have ht := Memory.wf_tail h
    unfold Memory.define
    split
    · rename_i hab
      split
      · rename_i hw
        by_cases hx : x = a
        · subst hx
          rw [if_pos rfl, hw]
          exact Memory.read_below h (by simp; omega)
        · rw [if_neg hx]
      · simp [Memory.read]
    · split
      · rename_i hab
        subst hab
        split
        · rename_i hw
          by_cases hx : x = a
          · subst hx
            rw [if_pos rfl, hw]
            refine Memory.read_below ht fun c u r hr => ?_
            subst hr
            simp only [Memory.wf, Bool.and_eq_true, decide_eq_true_eq] at h
            exact h.1.1
          · simp [Memory.read, hx]
        · by_cases hx : x = a <;> simp [Memory.read, hx]
      · rename_i h1 h2
        rw [Memory.read, Memory.read, ih ht]
        by_cases hx : x = b
        · subst hx
          simp [show x ≠ a by omega]
        · simp [hx]

end Sys2Proof
end

