-- ==== Sys2Proof/Laws/Step.lean ====
section
/-! SUPPORT. What a step can do, said once: it runs one operation on the state with the schedule or the input script moved on. -/
namespace Sys2Proof.Machine

/-- Fetching moves the schedule on and changes nothing else. -/
theorem State.fetch_ok {s t : State} {i : Instr} (h : s.fetch = .ok (i, t)) :
    ∃ rest, decode s.sched = .ok (i, rest) ∧ t = { s with sched := rest } := by
  unfold State.fetch at h
  split at h
  · rename_i j rest hd
    simp only [Except.ok.injEq, Prod.mk.injEq] at h
    obtain ⟨rfl, rfl⟩ := h
    exact ⟨rest, hd, rfl⟩
  · cases h

/-- The nominal choice takes at most one input change from the script and changes nothing else. -/
theorem State.nominal_some {s t : State} {i : Instr} (h : s.nominal = some (i, t)) :
    ∃ ins, t = { s with inputs := ins } := by
  unfold State.nominal at h
  split at h
  · rename_i u e rest hi
    split at h
    · simp only [Option.some.injEq, Prod.mk.injEq] at h
      exact ⟨rest, h.2.symm⟩
    · obtain ⟨j, hj, he⟩ := Option.map_eq_some_iff.1 h
      simp only [Prod.mk.injEq] at he
      exact ⟨s.inputs, he.2.symm⟩
  · obtain ⟨j, hj, he⟩ := Option.map_eq_some_iff.1 h
    simp only [Prod.mk.injEq] at he
    exact ⟨s.inputs, he.2.symm⟩

/-- Every next state of a step is the next state of one operation, on the state with only the schedule and the input script moved on. -/
theorem step_next {s t : State} (h : step s = .next t) :
    ∃ i sc ins, exec i { s with sched := sc, inputs := ins } = .next t := by
  unfold step at h
  split at h
  · unfold nominalStep at h
    split at h
    · rename_i i u hn
      obtain ⟨ins, rfl⟩ := State.nominal_some hn
      exact ⟨i, s.sched, ins, h⟩
    · cases h
  · split at h
    · rename_i i u hf
      obtain ⟨rest, -, rfl⟩ := State.fetch_ok hf
      exact ⟨i, rest, s.inputs, h⟩
    · cases h

end Sys2Proof.Machine
end

