-- ==== Sys2Proof/Tests/Slice0.lean ====
section
/-! SUPPORT. The model's own tests: ill-formed terms refused, every word of the opcode table decoded, the vectors of 95_test_vectors.md on
single steps, and for each statement with hypotheses a state that meets them. -/
namespace Sys2Proof.Machine.Tests

/-! ## Helpers -/

/-- What a field reads in the next state of an outcome, if there is a next state. -/
def peek {α : Type} (r : Result) (f : State → α) : Option α :=
  match r with
  | .next t => some (f t)
  | _ => none

/-- Whether an outcome is a refusal of the given reason. -/
def refusedAs (r : Result) (e : Refusal) : Bool :=
  match r with
  | .refused x => decide (x = e)
  | _ => false

/-- The reset state with MAIN standing at phase p. -/
def stand (p : Phase) : State := { State.reset with phase := p }

/-- The reset state with a time of day. -/
def clock (sec : BitVec 6) (min : BitVec 6) (hr : BitVec 5) (mode12 : Bool) : State :=
  { State.reset with sec := sec, min := min, hr := hr, cfg := { Cfg.default with mode12 := mode12 } }

/-! ## Well-formedness: R98 asks for a positive dt, R41 and R321 bound it -/

theorem test_wf_advance_one : (Instr.advance 1).wf = true := by decide
theorem test_wf_advance_longest : (Instr.advance 255000000).wf = true := by decide
theorem test_wf_refuses_advance_zero : (Instr.advance 0).wf = false := by decide
theorem test_wf_refuses_advance_too_long : (Instr.advance 255000001).wf = false := by decide

/-- The encoder's row for a character code the table has no row for is well formed, and only for such a code (R92, R104; log 9). -/
theorem test_wf_glyph_codes :
    (Instr.encGlyphOf 0x61).wf = true ∧ (Instr.encGlyphOf 0xFF).wf = true ∧ (Instr.encGlyphOf 0x41).wf = false ∧
    (Instr.encGlyphOf 0x20).wf = false := by decide

/-- R47: the default straps are legal; a period of 0, a dwell of 0, a cycle of 0, a threshold of 0, hour 0 in Twelve mode, minute 60 and
a glyph table that shows something for space are not. -/
theorem test_wf_configurations :
    Cfg.default.wf = true ∧ { Cfg.default with tickPeriodS := 0 }.wf = false ∧ { Cfg.default with dwellUs := 0 }.wf = false ∧
    { Cfg.default with setCycleMs := 0 }.wf = false ∧ { Cfg.default with accelCycles := 0 }.wf = false ∧
    { Cfg.default with defaultHr := 0 }.wf = false ∧ { Cfg.default with defaultMin := 60 }.wf = false ∧
    { Cfg.default with glyphTable := [(0x20, 0x01)] }.wf = false ∧
    { Cfg.default with mode12 := false, defaultHr := 0 }.wf = true := by decide

/-- The remaining checks of R47 and log 16: second 60, a script longer than 255 frames, a glyph table out of order, one that lists 0x00. -/
theorem test_wf_more_configurations :
    { Cfg.default with defaultSec := 60 }.wf = false ∧ { Cfg.default with bootScript := List.replicate 256 0 }.wf = false ∧
    { Cfg.default with glyphTable := [(0x31, 0x06), (0x30, 0x3F)] }.wf = false ∧
    { Cfg.default with glyphTable := [(0x41, 0x00)] }.wf = false ∧ { Cfg.default with glyphTable := [(256, 0x01)] }.wf = false :=
  ⟨by decide, by rw [Cfg.wf, List.length_replicate]; exact Bool.and_false _, by decide, by decide, by decide⟩

/-! ## Decoding: the words are the bits of the table's encoding column, op[7:0] as R98 lays them out -/

/-- Class 0b00, the MAIN steps (R96). -/
theorem test_decode_main_steps : ∀ e ∈
    ([(0b00000000, .slpEval), (0b00000001, .shwDb0), (0b00000010, .shwDb1), (0b00000011, .shwDb2), (0b00000100, .shwBegin),
     (0b00000101, .shwHead), (0b00000110, .shwDark), (0b00000111, .shwDarkw), (0b00001000, .shwPoll),
     (0b00001001, .shwExpire), (0b00001010, .exitOff), (0b00010000, .setBegin), (0b00010001, .setHead),
     (0b00010010, .setBlink), (0b00010011, .setBdark), (0b00010100, .setBdarkw), (0b00010101, .setPoll),
     (0b00010110, .setLock), (0b00010111, .setMut), (0b00011000, .setUnlock), (0b00011001, .setAcc), (0b00100000, .ledDb0),
     (0b00100001, .ledDb1), (0b00100010, .ledDb2), (0b00100011, .ledBegin), (0b00100100, .ledLoop), (0b00100101, .ledExit),
     (0b00110000, .rnSnap), (0b00110001, .rgLoad), (0b00110010, .ddOn), (0b00110011, .ddHold), (0b00110100, .ddOff),
     (0b00111000, .bootHead), (0b00111001, .bootFrame), (0b00111010, .bootDark), (0b00111011, .bootDarkw)] :
      List (OpCode × Instr)),
    decode [.op8 e.1] = .ok (e.2, []) := by decide

/-- Class 0b01, the handlers (R97, R103). -/
theorem test_decode_handlers : ∀ e ∈
    ([(0b01000000, .irqTick), (0b01000001, .irqBtn), (0b01000010, .irqAux)] :
      List (OpCode × Instr)),
    decode [.op8 e.1] = .ok (e.2, []) := by decide

/-- Class 0b10, the events but ADVANCE (R98, R103). -/
theorem test_decode_events : ∀ e ∈
    ([(0b10000001, .btnPress), (0b10000010, .btnRelease), (0b10000011, .auxPress), (0b10000100, .auxRelease),
     (0b10000101, .reset), (0b10000110, .tickRaise)] :
      List (OpCode × Instr)),
    decode [.op8 e.1] = .ok (e.2, []) := by decide

/-- ADVANCE with its operand after the code, here the one of the third line of V-DD1 (R98, R107). -/
theorem test_decode_advance : decode [.op8 0b10000000, .dt 2000, .op8 0x33] = .ok (.advance 2000, [.op8 0x33]) := by decide

/-- Class 0b11, the pure functions (R98, R103). -/
theorem test_decode_functions : ∀ e ∈
    ([(0b11000000, .encDigit), (0b11000001, .encGlyph), (0b11000010, .driveSeg), (0b11000011, .bcd4),
     (0b11000100, .normalize), (0b11000101, .timevalue), (0b11000110, .tickFn), (0b11000111, .incFn), (0b11001000, .jumpFn)] :
      List (OpCode × Instr)),
    decode [.op8 e.1] = .ok (e.2, []) := by decide

/-- DSYM4, the sixteen digit symbols (R91, R122). -/
theorem test_decode_digit_symbols : ∀ e ∈
    ([(0b0000, .digit0), (0b0001, .digit1), (0b0010, .digit2), (0b0011, .digit3), (0b0100, .digit4), (0b0101, .digit5),
     (0b0110, .digit6), (0b0111, .digit7), (0b1000, .digit8), (0b1001, .digit9), (0b1010, .blank), (0b1011, .undef11),
     (0b1100, .undef12), (0b1101, .undef13), (0b1110, .undef14), (0b1111, .undef15)] :
      List (DSym × Instr)),
    decode [.dsym4 e.1] = .ok (e.2, []) := by decide

/-- GSYM8, the characters of the reference table (R92, R124). -/
theorem test_decode_glyph_symbols : ∀ e ∈
    ([(0b00100000, .glyphSpace), (0b00101101, .glyphMinus), (0b00110000, .glyph0), (0b00110001, .glyph1),
     (0b00110010, .glyph2), (0b00110011, .glyph3), (0b00110100, .glyph4), (0b00110101, .glyph5), (0b00110110, .glyph6),
     (0b00110111, .glyph7), (0b00111000, .glyph8), (0b00111001, .glyph9), (0b01000001, .glyphUpA), (0b01000011, .glyphUpC),
     (0b01000101, .glyphUpE), (0b01000110, .glyphUpF), (0b01001000, .glyphUpH), (0b01001100, .glyphUpL),
     (0b01010000, .glyphUpP), (0b01010011, .glyphUpS), (0b01010101, .glyphUpU), (0b01100010, .glyphLowB),
     (0b01100011, .glyphLowC), (0b01100100, .glyphLowD), (0b01101000, .glyphLowH), (0b01101110, .glyphLowN),
     (0b01101111, .glyphLowO), (0b01110010, .glyphLowR), (0b01110100, .glyphLowT), (0b01110101, .glyphLowU),
     (0b01111001, .glyphLowY)] :
      List (GSym × Instr)),
    decode [.gsym8 e.1] = .ok (e.2, []) := by decide

/-- Every character code is a legal input of GSYM8 (R104, U1): one without a row too. -/
theorem test_decode_other_glyph_codes : ∀ c ∈ ([0x00, 0x21, 0x4F, 0x61, 0x80, 0xFF] : List GSym),
    decode [.gsym8 c, .op8 0x33] = .ok (.encGlyphOf c, [.op8 0x33]) := by decide

/-- The reserved codes that V-DEC names decode to nothing. -/
theorem test_decode_reserved_codes : ∀ c ∈ ([0x0B, 0x0F, 0x1A, 0x26, 0x35, 0x3C, 0x3F, 0x43, 0x7F, 0x87, 0xC9, 0xFF] : List OpCode),
    decode [.op8 c] = .error (.reservedOp c) := by decide

/-- V-DEC counts 55 defined codes: 54 without an operand, and ADVANCE. -/
theorem test_decode_counts_the_codes :
    ((List.range 256).filter fun n => (decodeOp (BitVec.ofNat 8 n)).isSome).length = 54 := by decide

theorem test_decode_stops_by_name :
    decode [] = .error .noWord ∧ decode [.dt 3] = .error (.strayOperand 3) ∧ decode [.op8 0x80] = .error .missingOperand ∧
    decode [.dt 3, .op8 0x80] = .error (.strayOperand 3) := by decide

/-- A word of the table: a byte that OP8 defines, ADVANCE with what stands above the code, a digit of four bits, a byte only GSYM8 has. -/
theorem test_decode_table_words :
    decodeTableWord 8 0x24 = some .ledLoop ∧ decodeTableWord 40 0x0007D080 = some (.advance 2000) ∧
    decodeTableWord 4 0x7 = some .digit7 ∧ decodeTableWord 8 0x48 = some .glyphUpH ∧ decodeTableWord 8 0xFF = none := by decide

/-- With a word of the table placed, MAIN's step it names is enabled, and it is the next step. -/
theorem test_fetched_main_steps_are_enabled : ∀ n ∈ List.range 64, ∀ i, decodeOp (BitVec.ofNat 8 n) = some i →
    (State.reset.selectFor i).mainEnabled (BitVec.ofNat 6 n) = true := by decide

/-- The step after placing a word runs it: LED_LOOP toggles the LED, IRQ_TICK adds the period, BTN_PRESS sets IP[1]. -/
theorem test_fetched_word_runs :
    peek (step (State.reset.withFetchWord 8 0x24)) (fun t => (t.led, t.auxp)) = some (true, true) ∧
    peek (step (State.reset.withFetchWord 8 0x40)) (fun t => (t.sec, t.ip)) = some (8, 0) ∧
    peek (step (State.reset.withFetchWord 8 0x81)) (fun t => (t.btnN, t.ip)) = some (false, 0b010) := by decide

/-! ## Segment Encoder and number formats (95_test_vectors.md 2.1, 2.2) -/

/-- V-ENC2. -/
theorem test_reference_glyphs :
    encGlyph Cfg.default 0x45 = 0x79 ∧ encGlyph Cfg.default 0x4C = 0x38 ∧ encGlyph Cfg.default 0x6F = 0x5C ∧
    encGlyph Cfg.default 0x2D = 0x40 ∧ encGlyph Cfg.default 0x20 = 0x00 ∧ encGlyph Cfg.default 0x30 = 0x3F ∧
    encGlyph Cfg.default 0x61 = 0x00 ∧ encGlyph Cfg.default 0x4F = 0x00 ∧ encGlyph Cfg.default 0xFF = 0x00 :=
  ⟨rfl, rfl, rfl, rfl, rfl, rfl, rfl, rfl, rfl⟩

theorem test_enc_glyph :
    peek (exec .encGlyph { State.reset with fn := { FnPort.zero with gsym := 0x48 } }) (fun t => t.fn.mask) = some 0x76 := by decide

/-- V-ENC1 for d = 2, and BLANK. -/
theorem test_enc_digit :
    peek (exec .encDigit { State.reset with fn := { FnPort.zero with dsym := 2 } }) (fun t => t.fn.mask) = some 0x5B ∧
    peek (exec .encDigit { State.reset with fn := { FnPort.zero with dsym := 10 } }) (fun t => t.fn.mask) = some 0x00 := by decide

/-- V-ENC3. -/
theorem test_drive_seg :
    peek (exec .driveSeg { State.reset with fn := { FnPort.zero with mask := 0x01 } }) (fun t => t.fn.segn) = some 0x7E ∧
    peek (exec .driveSeg { State.reset with fn := { FnPort.zero with mask := 0x40 } }) (fun t => t.fn.segn) = some 0x3F := by decide

/-- V-BCD: the digits of 2359, and 10000 refused. -/
theorem test_bcd4 :
    peek (exec .bcd4 { State.reset with fn := { FnPort.zero with value := 2359 } }) (fun t => (t.fn.d1, t.fn.d2, t.fn.d3, t.fn.d4)) =
      some (2, 3, 5, 9) ∧
    refusedAs (exec .bcd4 { State.reset with fn := { FnPort.zero with value := 10000 } }) .valueTooLarge = true := by decide

/-- V-TV: 9:59 gives 959, 23:59 gives 2359. -/
theorem test_timevalue :
    peek (exec .timevalue (clock 0 59 9 true)) (fun t => t.fn.value) = some 959 ∧
    peek (exec .timevalue (clock 0 59 23 false)) (fun t => t.fn.value) = some 2359 := by decide

/-- A digit row and a glyph row: V-ENC1 for 4, V-ENC2 for E. -/
theorem test_symbol_rows :
    peek (exec .digit4 State.reset) (fun t => (t.fn.mask, t.fn.segn)) = some (0x66, 0x19) ∧
    peek (exec .glyphUpE State.reset) (fun t => (t.fn.mask, t.fn.segn)) = some (0x79, 0x06) := by decide

/-- A code without a row: 0x00 with the reference table (V-ENC2), and its mask where a configuration's table defines it (R104, R123). -/
theorem test_other_glyph_codes :
    peek (exec (.encGlyphOf 0x61) State.reset) (fun t => (t.fn.gsym, t.fn.mask, t.fn.segn)) = some (0x61, 0x00, 0x7F) ∧
    peek (exec (.encGlyphOf 0x61) { State.reset with cfg := { Cfg.default with glyphTable := [(0x61, 0x5F)] } })
      (fun t => (t.fn.gsym, t.fn.mask, t.fn.segn)) = some (0x61, 0x5F, 0x20) := by decide

/-! ## Display Driver (2.3) -/

/-- V-RN: 2:15 and 11:11. -/
theorem test_rn_snap : ∀ e ∈ ([((2, 15), (0x00, 0x5B, 0x06, 0x6D)), ((11, 11), (0x06, 0x06, 0x06, 0x06))] :
      List ((BitVec 5 × BitVec 6) × (Mask × Mask × Mask × Mask))),
    peek (exec .rnSnap { stand 0x30 with hr := e.1.1, min := e.1.2 }) (fun t => ((t.m1, t.m2, t.m3, t.m4), t.pos, t.phase)) =
      some (e.2, 1, 0x32) := by decide

/-- R142's example: RENDER_NUMBER(1215, 1). -/
theorem test_render_number :
    peek (renderNumber 1215 true State.reset) (fun t => (t.m1, t.m2, t.m3, t.m4, t.colon)) =
      some (0x06, 0x5B, 0x06, 0x6D, true) := by decide

/-- V-RG: HELL, and a leading 0 that is not suppressed. -/
theorem test_rg_load : ∀ e ∈ ([(0x48454C4C, (0x76, 0x79, 0x38, 0x38)), (0x30202020, (0x3F, 0x00, 0x00, 0x00))] :
      List (BitVec 32 × (Mask × Mask × Mask × Mask))),
    peek (exec .rgLoad { stand 0x31 with txt := e.1, colon := true }) (fun t => ((t.m1, t.m2, t.m3, t.m4), t.colon)) =
      some (e.2, false) := by decide

/-- V-DD2. -/
theorem test_dd_on :
    peek (exec .ddOn { stand 0x32 with pos := 3, m3 := 0x3F }) (fun t => (t.segN, t.colonN, t.dig, t.wt)) =
      some (0x40, true, 0b0100, 2000) ∧
    peek (exec .ddOn { stand 0x32 with colon := true }) (fun t => (t.segN, t.colonN, t.dig)) = some (0x7F, false, 0b0001) := by decide

/-- V-DD3: held with WT at 1. -/
theorem test_dd_hold :
    peek (exec .ddHold { stand 0x33 with wt := 1 }) (fun t => t.phase) = some 0x33 ∧
    peek (exec .ddHold (stand 0x33)) (fun t => t.phase) = some 0x34 := by decide

/-- V-DD4. -/
theorem test_dd_off :
    peek (exec .ddOff { stand 0x34 with dig := 1, segN := 0 }) (fun t => (t.pos, t.phase, t.segN, t.dig)) = some (2, 0x32, 0x7F, 0) ∧
    peek (exec .ddOff { stand 0x34 with pos := 4, ret := 0x13, colonN := false }) (fun t => (t.pos, t.phase, t.colonN)) =
      some (4, 0x13, true) := by decide

/-- R11: 300 us at rest, position 1 lit for 2000 us, then a RESET, which closes the interval at the NOW it cut and starts another at 0. -/
theorem test_output_trace :
    let dark := { stand 0x33 with wt := 300 }.span
    let lit := { stand 0x33 with now := 300, dig := 1, segN := 0x79 }.span
    let cut := { stand 0x33 with now := 2300, dig := 1, segN := 0x79 }
    let trace := observe (observe [lit, { dark with stop := 300 }] cut) State.reset
    trace = [⟨restOutputs false, 0, 0⟩, ⟨cut.outputs, 300, 2300⟩, ⟨restOutputs false, 0, 300⟩] ∧
    litTime 1 trace = 2000 ∧ dutyCycle 1 trace = (2000, 2300) ∧ dutyCycle 2 trace = (0, 2300) ∧
    displayDutyCycle trace = (2000, 2300) := by decide

/-- R11 over a run: from a lit position 4, ADVANCE to the end of its dwell, DD_HOLD and DD_OFF leave one interval of the dwell. -/
theorem test_output_trace_of_a_run :
    let s := { stand 0x33 with ret := 0x06, wt := 2000, pos := 4, dig := 8, segN := 0x12, m4 := 0x6D }
    outputTrace 3 s = [⟨restOutputs false, 2000, 2000⟩, ⟨s.outputs, 0, 2000⟩] ∧ litTime 4 (outputTrace 3 s) = 2000 := by decide

/-! ## Clock Engine (2.4) -/

/-- V-NORM. -/
theorem test_normalize : ∀ e ∈ ([((63, 59, 23), false, (3, 0, 0)), ((63, 59, 11), true, (3, 0, 12)), ((63, 59, 12), true, (3, 0, 1)),
      ((7199, 59, 23), false, (59, 58, 1)), ((100000, 0, 12), true, (40, 46, 3)), ((0, 0, 25), true, (0, 0, 1)),
      ((5, 5, 0), true, (5, 5, 12))] : List ((Nat × Nat × Nat) × Bool × (Nat × Nat × Nat))),
    peek (exec .normalize { State.reset with
        fn := { FnPort.zero with time := ⟨e.1.1, e.1.2.1, e.1.2.2⟩, mode12 := e.2.1 } })
      (fun t => (t.fn.time.s, t.fn.time.m, t.fn.time.h)) = some e.2.2 := by decide

/-- V-TICK, as the function and as the handler. -/
theorem test_tick :
    peek (exec .tickFn (clock 52 59 12 true)) (fun t => t.fn.time) = some ⟨0, 0, 1⟩ ∧
    peek (exec .irqTick { clock 55 59 23 false with ip := 0b101, halt := true }) (fun t => (t.sec, t.min, t.hr, t.ip, t.halt)) =
      some (3, 0, 0, 0b100, false) := by decide

/-- V-INC: 12:59:07 in Twelve mode. -/
theorem test_inc_fn : peek (exec .incFn (clock 7 59 12 true)) (fun t => t.fn.time) = some ⟨7, 0, 1⟩ := by decide

/-- V-JUMP: from an exact ten, and from 59. -/
theorem test_jump_fn :
    peek (exec .jumpFn (clock 0 40 3 true)) (fun t => t.fn.time) = some ⟨0, 50, 3⟩ ∧
    peek (exec .jumpFn (clock 3 59 11 true)) (fun t => t.fn.time) = some ⟨3, 0, 12⟩ := by decide

/-! ## Mode Controller, debounce, sleep, boot (2.5 to 2.8) -/

/-- V-M2, V-M3, V-M4: one below the window, at it, and across the wrap of MS. -/
theorem test_shw_head :
    peek (exec .shwHead { stand 0x05 with t0 := 1250, ms := 3248 }) (fun t => (t.colon, t.ret, t.phase)) = some (true, 0x06, 0x30) ∧
    peek (exec .shwHead { stand 0x05 with t0 := 1250, ms := 3250 }) (fun t => t.phase) = some 0x09 ∧
    peek (exec .shwHead { stand 0x05 with t0 := 0xFFFFFF00, ms := 0x100 }) (fun t => t.phase) = some 0x30 := by decide

/-- V-M8, V-M9. -/
theorem test_shw_poll :
    peek (exec .shwPoll { stand 0x08 with btnN := false }) (fun t => (t.hit, t.phase)) = some (true, 0x05) ∧
    peek (exec .shwPoll { stand 0x08 with hit := true }) (fun t => t.phase) = some 0x0A := by decide

/-- V-M14. -/
theorem test_exit_off :
    peek (exec .exitOff { stand 0x0A with led := true, showReq := true, ledReq := true, hit := true, mode := 2, ip := 0b010 })
      (fun t => ((t.led, t.showReq, t.ledReq, t.hit), t.mode, t.phase, t.ip)) =
        some ((false, false, false, false), 0, 0x00, 0b010) := by decide

/-- V-M18, V-M19. -/
theorem test_set_blink :
    peek (exec .setBlink { stand 0x12 with rep := 3, colon := true }) (fun t => (t.ret, t.phase)) = some (0x13, 0x30) ∧
    peek (exec .setBlink { stand 0x12 with rep := 10, colon := true }) (fun t => (t.colon, t.rep, t.phase)) =
      some (false, 0, 0x12) := by decide

/-- V-M23, V-M24. -/
theorem test_set_poll : ∀ h ∈ ([9, 10] : List (BitVec 4)),
    peek (exec .setPoll { stand 0x15 with hold := h, idle := 1800, btnN := false }) (fun t => (t.hold, t.idle, t.phase)) =
      some (10, 0, 0x16) := by decide

/-- V-M27, V-M28, V-M29. -/
theorem test_set_mut :
    peek (exec .setMut { stand 0x17 with hold := 9, min := 9 }) (fun t => (t.sec, t.min, t.hr)) = some (0, 10, 12) ∧
    peek (exec .setMut { stand 0x17 with hold := 10, min := 46, hr := 3 }) (fun t => (t.sec, t.min, t.hr)) = some (0, 50, 3) ∧
    peek (exec .setMut { stand 0x17 with hold := 10, sec := 30, min := 55 }) (fun t => (t.sec, t.min, t.hr)) = some (30, 0, 1) := by decide

/-- V-M33. -/
theorem test_set_acc : peek (exec .setAcc { stand 0x19 with idle := 1800 }) (fun t => t.idle) = some 2000 := by decide

/-- V-M36, V-M39: a new touch, and the window's end, which comes first. -/
theorem test_led_loop :
    peek (exec .ledLoop { stand 0x24 with t0 := 700, ms := 1200, aux := true, led := true }) (fun t => (t.led, t.auxp, t.phase)) =
      some (false, true, 0x24) ∧
    peek (exec .ledLoop { stand 0x24 with t0 := 700, ms := 2700, aux := true }) (fun t => (t.led, t.phase)) =
      some (false, 0x25) := by decide

/-- V-B1, V-B2. -/
theorem test_shw_db0 :
    peek (exec .shwDb0 { stand 0x01 with btnN := false }) (fun t => t.phase) = some 0x01 ∧
    peek (exec .shwDb0 (stand 0x01)) (fun t => (t.wt, t.phase)) = some (100000, 0x02) := by decide

/-- V-S1, V-S4. -/
theorem test_slp_eval :
    peek (exec .slpEval (stand 0x00)) (fun t => (t.halt, t.phase)) = some (true, 0x00) ∧
    peek (exec .slpEval { stand 0x00 with showReq := true, ledReq := true }) (fun t => (t.mode, t.phase, t.halt)) =
      some (1, 0x01, false) := by decide

/-- R356's example: the frame HELL until 500 ms have passed. -/
theorem test_boot_frame :
    peek (exec .bootFrame { stand 0x39 with cfg := { Cfg.default with bootScript := [0x48454C4C], msgMs := 500 }, ms := 499 })
      (fun t => (t.txt, t.ret, t.phase)) = some (0x48454C4C, 0x3A, 0x31) ∧
    peek (exec .bootFrame { stand 0x39 with cfg := { Cfg.default with bootScript := [0x48454C4C], msgMs := 500 }, ms := 500 })
      (fun t => (t.bi, t.phase)) = some (1, 0x38) := by decide

/-! ## Interrupts and time -/

/-- R305 and R304: the press from rest, and a second press refused. -/
theorem test_btn_press :
    peek (exec .btnPress State.reset) (fun t => (t.btnN, t.ip)) = some (false, 0b010) ∧
    refusedAs (exec .btnPress { State.reset with btnN := false }) .levelRepeat = true := by decide

/-- R321's corner cases: exactly on the boundary, with WT truncated; one more is held. -/
theorem test_advance :
    peek (exec (.advance 1000) { State.reset with tcnt := 7999000, now := 7999000, wt := 5 }) (fun t => (t.tcnt, t.ip, t.wt, t.ms)) =
      some (0, 0b001, 0, 8000) ∧
    peek (exec (.advance 1001) { State.reset with tcnt := 7999000 }) (fun t => t.tcnt) = some 7999000 := by decide

/-- R309 and R302: the second tick with the first still pending. -/
theorem test_tick_raise :
    peek (exec .tickRaise { State.reset with ip := 0b001 }) (fun t => (t.ip, t.tickOverrun)) = some (0b001, true) := by decide

/-- R350's example, from a state that has moved on. -/
theorem test_reset :
    peek (exec .reset { stand 0x33 with sec := 5, dig := 1, now := 99, btnN := false, halt := true })
      (fun t => ((t.sec, t.min, t.hr), t.phase, t.now, t.btnN, t.outputs)) =
        some ((0, 0, 12), 0x38, 0, false, restOutputs false) := by decide

/-- R355 and R281: from reset the first step goes to SLP_EVAL, the second halts, the third passes the 8 seconds to the tick. -/
theorem test_first_steps_from_reset :
    peek (core.run 2 core.reset) (fun t => (t.halt, t.phase)) = some (true, 0x00) ∧
    peek (core.run 3 core.reset) (fun t => (t.now, t.ip)) = some (8000000, 0b001) := by decide

/-! ## The hypotheses of the statements can be met: for each statement that has some, states and operands that meet them, clause by
clause, at the ends of their ranges. -/

/-- The milliseconds since T0, as the statements write them. -/
def passed (s : State) : Nat := (s.ms.toNat + 2 ^ 32 - s.t0.toNat) % 2 ^ 32

/-- A well-formed operation of every format, and ADVANCE outside the bounds of its operand. -/
theorem witness_DecodeExactlyInvertsEncode :
    (Instr.encGlyphOf 0x61).wf = true ∧ Instr.glyphSpace.wf = true ∧ Instr.blank.wf = true ∧ Instr.jumpFn.wf = true ∧
    decode [.op8 0x80, .dt 0] = .ok (.advance 0, []) ∧ (Instr.advance 0).wf = false := by decide

theorem witness_ReservedCodesAreRefused :
    (0x00 : OpCode) ≠ 0x80 ∧ (decodeOp 0x00).isSome = true ∧ (0xC8 : OpCode) ≠ 0x80 ∧ (decodeOp 0xC8).isSome = true ∧
    (0x0B : OpCode) ≠ 0x80 ∧ (decodeOp 0x0B).isSome = false ∧ (0x7F : OpCode) ≠ 0x80 ∧ (decodeOp 0x7F).isSome = false ∧
    { State.reset with sched := [.op8 0x0B] }.sched = .op8 0x0B :: [] := by decide

theorem witness_StepRunsDecodedOperation :
    (Instr.advance 255000000).wf = true ∧
    { State.reset with sched := [.op8 0x80, .dt 255000000, .op8 0x33] }.sched = encode (.advance 255000000) ++ [.op8 0x33] ∧
    Instr.jumpFn.wf = true ∧ { State.reset with sched := [.op8 0xC8] }.sched = encode .jumpFn ++ [] := by decide

/-- The cases in the order of the statement: the three handlers, MAIN, and time with a scripted change one microsecond away, with the tick
first, and in LED_LOOP one millisecond before its window is over. -/
theorem witness_NominalScheduleOrder :
    (∃ s : State, s.sched = [] ∧ (∀ e ∈ s.inputs.head?, s.now < e.1) ∧ s.irqEnabled 0 = true) ∧
    (∃ s : State, s.sched = [] ∧ (∀ e ∈ s.inputs.head?, s.now < e.1) ∧ s.irqEnabled 0 = false ∧ s.irqEnabled 1 = true) ∧
    (∃ s : State, s.sched = [] ∧ (∀ e ∈ s.inputs.head?, s.now < e.1) ∧ s.irqEnabled 0 = false ∧ s.irqEnabled 1 = false ∧
      s.irqEnabled 2 = true) ∧
    (∃ s : State, s.sched = [] ∧ (∀ e ∈ s.inputs.head?, s.now < e.1) ∧ s.irqEnabled 0 = false ∧ s.irqEnabled 1 = false ∧
      s.irqEnabled 2 = false ∧ mainInstr s.phase = some .bootHead ∧ s.mainEnabled s.phase = true) ∧
    (∃ s : State, s.sched = [] ∧ (∀ e ∈ s.inputs.head?, s.now < e.1) ∧ s.irqEnabled 0 = false ∧ s.irqEnabled 1 = false ∧
      s.irqEnabled 2 = false ∧ s.mainEnabled s.phase = false ∧ s.tcnt.toNat < s.cfg.periodUs ∧ s.halt = false ∧
      waitsForTimer s.phase = true ∧ s.inputs.head? = some (5, .btnPress)) ∧
    (∃ s : State, s.sched = [] ∧ (∀ e ∈ s.inputs.head?, s.now < e.1) ∧ s.irqEnabled 0 = false ∧ s.irqEnabled 1 = false ∧
      s.irqEnabled 2 = false ∧ s.mainEnabled s.phase = false ∧ s.tcnt.toNat + 1 = s.cfg.periodUs ∧ s.halt = true) ∧
    (∃ s : State, s.sched = [] ∧ (∀ e ∈ s.inputs.head?, s.now < e.1) ∧ s.irqEnabled 0 = false ∧ s.irqEnabled 1 = false ∧
      s.irqEnabled 2 = false ∧ s.mainEnabled s.phase = false ∧ s.tcnt.toNat < s.cfg.periodUs ∧ s.halt = false ∧ s.phase = 0x24 ∧
      passed s + 1 = s.cfg.ledWindowMs.toNat) :=
  ⟨⟨{ State.reset with ip := 0b111, inputs := [(5, .btnPress)] }, by decide⟩, ⟨{ State.reset with ip := 0b111, tickMask := true }, by decide⟩,
    ⟨{ State.reset with ip := 0b100 }, by decide⟩, ⟨State.reset, by decide⟩,
    ⟨{ stand 0x33 with wt := 1, tcnt := 7999999, now := 4, inputs := [(5, .btnPress)] }, by decide⟩,
    ⟨{ stand 0x00 with tcnt := 7999999, halt := true }, by decide⟩, ⟨{ stand 0x24 with t0 := 700, ms := 2699, now := 2699400 }, by decide⟩⟩

theorem witness_NormalizeIsIdempotent :
    ((59 < 60 ∧ 59 < 60 ∧ 1 ≤ 12 ∧ 12 ≤ 12) ∧ (0 < 60 ∧ 0 < 60 ∧ 1 ≤ 1 ∧ 1 ≤ 12) ∧ (59 < 60 ∧ 59 < 60 ∧ 23 ≤ 23)) ∧
    normalize ⟨59, 59, 12⟩ true = ⟨59, 59, 12⟩ ∧ normalize ⟨0, 0, 1⟩ true = ⟨0, 0, 1⟩ ∧
    normalize ⟨59, 59, 23⟩ false = ⟨59, 59, 23⟩ := by decide

theorem witness_TickCommutesWithIncrementNotJump : Cfg.default.tickPeriodS = 8 := by decide

theorem witness_SegmentEncoderSteps :
    ((0x2D, 0x40) ∈ State.reset.cfg.glyphTable ∧ (0x79, 0x6E) ∈ State.reset.cfg.glyphTable) ∧
    Memory.wf State.reset.cfg.glyphTable = true ∧
    (∀ e ∈ State.reset.cfg.glyphTable, e.1 ≠ 0x20) := by decide

theorem witness_Bcd4SplitsTheValue :
    { State.reset with fn := { FnPort.zero with value := 9999 } }.fn.value.toNat ≤ 9999 ∧
    9999 < { State.reset with fn := { FnPort.zero with value := 10000 } }.fn.value.toNat ∧
    9999 < { State.reset with fn := { FnPort.zero with value := 16383 } }.fn.value.toNat := by decide

theorem witness_TimevalueIsHoursTimesHundred : TimeOk State.reset ∧ TimeOk (clock 59 59 23 false) := by decide

theorem witness_GlyphSymbolRows :
    State.reset.cfg.glyphTable = referenceGlyphs ∧ (∀ e ∈ State.reset.cfg.glyphTable, e.1 ≠ 0x61) ∧
    (∀ e ∈ State.reset.cfg.glyphTable, e.1 ≠ 0x00) ∧ ∀ e ∈ State.reset.cfg.glyphTable, e.1 ≠ 0xFF := by decide

theorem witness_RenderNumberShowsItsOperand :
    (9999 : Val14).toNat ≤ 9999 ∧ (999 : Val14).toNat < 1000 ∧ 9999 < (10000 : Val14).toNat := by decide

theorem witness_RnSnapLoadsTheTime : MainAt 0x30 (stand 0x30) := by decide
theorem witness_RgLoadLoadsTheText : MainAt 0x31 (stand 0x31) := by decide

theorem witness_DdOnLightsThePosition :
    ∀ p ∈ ([1, 2, 3, 4] : List (BitVec 3)), MainAt 0x32 { stand 0x32 with pos := p } ∧ { stand 0x32 with pos := p }.pos = p := by decide

theorem witness_DdOffRestsAndMovesOn :
    (∃ s : State, MainAt 0x34 s ∧ s.pos.toNat < 4) ∧ (∃ s : State, MainAt 0x34 s ∧ 4 ≤ s.pos.toNat) :=
  ⟨⟨{ stand 0x34 with pos := 3 }, by decide⟩, ⟨{ stand 0x34 with pos := 4 }, by decide⟩⟩

theorem witness_TimedWaitsHoldThenMoveOn :
    (∀ p ∈ ([0x02, 0x07, 0x21, 0x33, 0x3B] : List Phase), MainAt p (stand p) ∧ (stand p).wt = 0 ∧
      MainAt p { stand p with wt := 1 } ∧ { stand p with wt := 1 }.wt ≠ 0) := by decide

theorem witness_DarkStepsLoadTheInterval : ∀ p ∈ ([0x06, 0x13, 0x3A] : List Phase), MainAt p (stand p) := by decide

/-- Entered at RN_SNAP, at rest, one microsecond before the tick would fall on the sweep's end. -/
theorem witness_SweepLastsFourDwells :
    let s := { stand 0x30 with ret := 0x06, tcnt := 7991999, colon := true, txt := 0x48454C4C }
    MainAt 0x30 s ∧ s.sched = [] ∧ s.inputs = [] ∧ s.cfg.dwellUs ≠ 0 ∧ s.irqEnabled 0 = false ∧
    s.irqEnabled 1 = false ∧ s.irqEnabled 2 = false ∧ s.tcnt.toNat + 4 * s.cfg.dwellUs.toNat < s.cfg.periodUs ∧
    s.cfg.periodUs < 2 ^ 28 ∧ AtRest s := by decide

/-- The same at RG_LOAD. -/
theorem witness_SweepLastsFourDwells_text :
    let s := { stand 0x31 with ret := 0x3A, tcnt := 7991999, colon := true, txt := 0x48454C4C }
    MainAt 0x31 s ∧ s.sched = [] ∧ s.inputs = [] ∧ s.cfg.dwellUs ≠ 0 ∧ s.irqEnabled 0 = false ∧
    s.irqEnabled 1 = false ∧ s.irqEnabled 2 = false ∧ s.tcnt.toNat + 4 * s.cfg.dwellUs.toNat < s.cfg.periodUs ∧
    s.cfg.periodUs < 2 ^ 28 ∧ AtRest s := by decide

theorem witness_SlpEvalDispatchesOrHalts :
    (∃ s : State, MainAt 0x00 s ∧ s.cfg.alwaysOn = false ∧ s.showReq = true) ∧
    (∃ s : State, MainAt 0x00 s ∧ s.cfg.alwaysOn = true ∧ s.showReq = false) ∧
    (∃ s : State, MainAt 0x00 s ∧ s.cfg.alwaysOn = false ∧ s.showReq = false ∧ s.ledReq = true) ∧
    (∃ s : State, MainAt 0x00 s ∧ s.cfg.alwaysOn = false ∧ s.showReq = false ∧ s.ledReq = false) :=
  ⟨⟨{ stand 0x00 with showReq := true }, by decide⟩, ⟨{ stand 0x00 with cfg := { Cfg.default with alwaysOn := true } }, by decide⟩,
    ⟨{ stand 0x00 with ledReq := true }, by decide⟩, ⟨stand 0x00, by decide⟩⟩

theorem witness_MainStepsHeldElsewhere :
    mainPhase .slpEval = some 0x00 ∧ mainPhase .bootDarkw = some 0x3B ∧ { State.reset with halt := true }.halt = true ∧
    State.reset.phase ≠ 0x3B := by decide

theorem witness_ReleaseWaitsDebounce :
    (∀ p ∈ ([0x01, 0x03, 0x20, 0x22] : List Phase), MainAt p (stand p) ∧ MainAt p { stand p with btnN := false, aux := true }) ∧
    (stand 0x01).btnN = true ∧ (stand 0x20).aux = false := by decide

theorem witness_WindowsStartAtMs : MainAt 0x04 (stand 0x04) ∧ MainAt 0x23 (stand 0x23) := by decide

theorem witness_ShwHeadSweepsOrExpires :
    (∃ s : State, MainAt 0x05 s ∧ passed s < s.cfg.showMs.toNat) ∧ (∃ s : State, MainAt 0x05 s ∧ s.cfg.showMs.toNat ≤ passed s) :=
  ⟨⟨{ stand 0x05 with t0 := 1250, ms := 3249 }, by decide⟩, ⟨{ stand 0x05 with t0 := 1250, ms := 3250 }, by decide⟩⟩

theorem witness_ShowingTimeSamplesTheButton :
    MainAt 0x08 { stand 0x08 with btnN := false } ∧ MainAt 0x08 { stand 0x08 with hit := true } ∧ MainAt 0x08 (stand 0x08) ∧
    (stand 0x08).btnN = true ∧ (stand 0x08).hit = false ∧
    MainAt 0x09 { stand 0x09 with btnN := false } ∧ MainAt 0x09 (stand 0x09) ∧ (stand 0x09).btnN = true := by decide

theorem witness_ExitsReturnToSleeping : MainAt 0x0A (stand 0x0A) ∧ MainAt 0x25 (stand 0x25) := by decide

theorem witness_SettingTimeHeads :
    MainAt 0x10 (stand 0x10) ∧ (∃ s : State, MainAt 0x11 s ∧ s.idle.toNat < s.cfg.setIdleMs.toNat) ∧
    (∃ s : State, MainAt 0x11 s ∧ s.cfg.setIdleMs.toNat ≤ s.idle.toNat) :=
  ⟨by decide, ⟨{ stand 0x11 with idle := 1999 }, by decide⟩, ⟨{ stand 0x11 with idle := 2000 }, by decide⟩⟩

theorem witness_SetBlinkRunsTwoHalves :
    (∃ s : State, MainAt 0x12 s ∧ s.rep.toNat < s.cfg.blinkReps.toNat) ∧
    (∃ s : State, MainAt 0x12 s ∧ s.cfg.blinkReps.toNat ≤ s.rep.toNat ∧ s.colon = true) ∧
    (∃ s : State, MainAt 0x12 s ∧ s.cfg.blinkReps.toNat ≤ s.rep.toNat ∧ s.colon = false) :=
  ⟨⟨{ stand 0x12 with rep := 9 }, by decide⟩, ⟨{ stand 0x12 with rep := 10, colon := true }, by decide⟩,
    ⟨{ stand 0x12 with rep := 10 }, by decide⟩⟩

theorem witness_SettingTimeCountsOn :
    (∃ s : State, MainAt 0x14 s ∧ s.wt ≠ 0) ∧ (∃ s : State, MainAt 0x14 s ∧ s.wt = 0 ∧ s.rep.toNat < 15) ∧
    (∃ s : State, MainAt 0x19 s ∧ s.idle.toNat + s.cfg.setCycleMs.toNat < 2 ^ 17) :=
  ⟨⟨{ stand 0x14 with wt := 1 }, by decide⟩, ⟨{ stand 0x14 with rep := 14 }, by decide⟩, ⟨{ stand 0x19 with idle := 130871 }, by decide⟩⟩

theorem witness_SetPollCountsTheHold :
    MainAt 0x15 (stand 0x15) ∧ (stand 0x15).btnN = true ∧ MainAt 0x15 { stand 0x15 with btnN := false, hold := 10 } := by decide

theorem witness_BracketMasksTheTick : MainAt 0x16 (stand 0x16) ∧ MainAt 0x18 (stand 0x18) := by decide

theorem witness_SetMutMovesTheMinute : MainAt 0x17 (stand 0x17) := by decide

theorem witness_LedLoopTogglesPerTouch :
    (∃ s : State, MainAt 0x24 s ∧ s.cfg.ledWindowMs.toNat ≤ passed s) ∧
    (∃ s : State, MainAt 0x24 s ∧ passed s < s.cfg.ledWindowMs.toNat ∧ s.aux = true ∧ s.auxp = false) ∧
    (∃ s : State, MainAt 0x24 s ∧ passed s < s.cfg.ledWindowMs.toNat ∧ s.aux = false ∧ s.auxp = true) ∧
    (∃ s : State, MainAt 0x24 s ∧ passed s < s.cfg.ledWindowMs.toNat ∧ s.aux = s.auxp) :=
  ⟨⟨{ stand 0x24 with t0 := 700, ms := 2700 }, by decide⟩, ⟨{ stand 0x24 with t0 := 700, ms := 2699, aux := true }, by decide⟩,
    ⟨{ stand 0x24 with auxp := true }, by decide⟩, ⟨stand 0x24, by decide⟩⟩

theorem witness_BootHeadStartsAFrame :
    (∃ s : State, MainAt 0x38 s ∧ s.bi.toNat < s.cfg.bootScript.length) ∧
    (∃ s : State, MainAt 0x38 s ∧ s.cfg.bootScript.length ≤ s.bi.toNat) :=
  ⟨⟨{ stand 0x38 with cfg := { Cfg.default with bootScript := [0x48454C4C] } }, by decide⟩, ⟨stand 0x38, by decide⟩⟩

theorem witness_BootFrameShowsTheText :
    (∃ s : State, MainAt 0x39 s ∧ passed s < s.cfg.msgMs.toNat ∧ s.cfg.bootScript[s.bi.toNat]? = some 0x48454C4C) ∧
    (∃ s : State, MainAt 0x39 s ∧ s.cfg.msgMs.toNat ≤ passed s ∧ s.bi.toNat < 255) :=
  ⟨⟨{ stand 0x39 with ms := 499, cfg := { Cfg.default with bootScript := [0x48454C4C], msgMs := 500 } }, by decide⟩,
    ⟨{ stand 0x39 with ms := 500, bi := 254, cfg := { Cfg.default with msgMs := 500 } }, by decide⟩⟩

theorem witness_ResetLoadsTheResetTable :
    State.reset.straps.wf = true ∧ { State.reset with straps := { Cfg.default with dwellUs := 0 } }.straps.wf = false := by decide

theorem witness_IrqTickAddsThePeriod :
    ({ State.reset with ip := 0b001 }.ip.getLsbD 0 = true ∧ State.reset.tickMask = false) ∧
    State.reset.ip.getLsbD 0 = false ∧ { State.reset with tickMask := true }.tickMask = true := by decide

theorem witness_ButtonHandlersSetTheirRequest :
    { State.reset with ip := 0b110 }.ip.getLsbD 1 = true ∧ { State.reset with ip := 0b110 }.ip.getLsbD 2 = true ∧
    { State.reset with ip := 0b001 }.ip.getLsbD 1 = false ∧ { State.reset with ip := 0b001 }.ip.getLsbD 2 = false := by decide

theorem witness_InputEventsChangeTheLevel :
    State.reset.btnN = true ∧ { State.reset with btnN := false }.btnN = false ∧ State.reset.aux = false ∧
    { State.reset with aux := true }.aux = true := by decide

theorem witness_TickRaiseSetsPendingOrOverrun :
    { State.reset with ip := 0b110 }.ip.getLsbD 0 = false ∧ { State.reset with ip := 0b001 }.ip.getLsbD 0 = true := by decide

/-- Just below the boundary, on it, past it, and the zero that is held. -/
theorem witness_AdvancePassesTime :
    (1 ≤ 7999999 ∧ State.reset.tcnt.toNat + 7999999 < State.reset.cfg.tickPeriodS.toNat * 1000000) ∧
    (1 ≤ 8000000 ∧ State.reset.tcnt.toNat + 8000000 = State.reset.cfg.tickPeriodS.toNat * 1000000) ∧
    State.reset.cfg.tickPeriodS.toNat * 1000000 < State.reset.tcnt.toNat + 8000001 ∧
    (State.reset.ip.getLsbD 0 = false ∧ { State.reset with ip := 0b001 }.ip.getLsbD 0 = true) := by decide

theorem witness_BracketDelaysTheTick :
    MainAt 0x16 { stand 0x16 with tcnt := 7999999 } ∧ { stand 0x16 with tcnt := 7999999 }.ip.getLsbD 0 = false ∧ 1 ≤ 1 ∧
    { stand 0x16 with tcnt := 7999999 }.tcnt.toNat + 1 = { stand 0x16 with tcnt := 7999999 }.cfg.periodUs := by decide

theorem witness_TickOnlyWakeShowsNothing :
    { stand 0x00 with halt := true, ip := 0b001 }.halt = true ∧ { stand 0x00 with halt := true, ip := 0b001 }.phase = 0x00 ∧
    { stand 0x00 with halt := true, ip := 0b001 }.ip.getLsbD 0 = true ∧ (stand 0x00).tickMask = false ∧
    (stand 0x00).showReq = false ∧ (stand 0x00).ledReq = false ∧ (stand 0x00).cfg.alwaysOn = false := by decide

/-- Nothing between, and between the handler and SLP_EVAL another handler, an event and time; both arms of the last clause. -/
theorem witness_HandlerAtSleepAlwaysDispatches :
    (∀ i ∈ ([.irqTick, .btnRelease, .advance 5] : List Instr), i ≠ .slpEval ∧ i ≠ .exitOff ∧ i ≠ .ledExit ∧ i ≠ .reset) ∧
    (let s := { stand 0x00 with halt := true, ip := 0b111, btnN := false }
    s.ip.getLsbD 1 = true ∧ s.ip.getLsbD 2 = true ∧
    peek (execAll [.irqBtn] s) (fun u => u.phase) = some 0x00 ∧
    peek (execAll (.irqBtn :: [.irqTick, .btnRelease, .advance 5]) s) (fun u => u.phase) = some 0x00 ∧
    peek (execAll [.irqAux] s) (fun u => (u.phase, u.showReq, u.cfg.alwaysOn)) = some (0x00, false, false) ∧
    peek (execAll (.irqAux :: [.irqBtn, .advance 5]) s) (fun u => (u.phase, u.showReq)) = some (0x00, true)) := by
  refine ⟨by decide, by decide, by decide, by decide, by decide, by decide, by decide⟩

/-- TimeOfDay moves in IRQ_TICK and in SET_MUT inside the bracket. -/
theorem witness_TimeAndConfigOwnership :
    MaskOk { State.reset with ip := 0b001 } ∧ peek (exec .irqTick { State.reset with ip := 0b001 }) (fun t => t.sec) = some 8 ∧
    MaskOk { stand 0x17 with tickMask := true } ∧
    peek (exec .setMut { stand 0x17 with tickMask := true }) (fun t => t.min) = some 1 := by decide

theorem witness_OutputOwnership :
    peek (exec .ddOn (stand 0x32)) (fun t => t.dig) = some 1 ∧ (stand 0x32).dig = 0 ∧
    peek (exec .shwBegin (stand 0x04)) (fun t => t.led) = some true ∧ (stand 0x04).led = false := by decide

theorem witness_WakeFlagOwnership :
    peek (exec .slpEval (stand 0x00)) (fun t => t.halt) = some true ∧
    peek (exec .irqBtn { State.reset with halt := true, ip := 0b010 }) (fun t => (t.halt, t.showReq)) = some (false, true) ∧
    peek (exec .irqAux { State.reset with ip := 0b100 }) (fun t => t.ledReq) = some true ∧
    peek (exec .ledExit { stand 0x25 with ledReq := true }) (fun t => t.ledReq) = some false ∧
    peek (exec .setLock (stand 0x16)) (fun t => t.tickMask) = some true ∧
    peek (exec .setUnlock { stand 0x18 with tickMask := true }) (fun t => t.tickMask) = some false := by decide

/-- The edges out of Sleeping. -/
theorem witness_ModeChangesFollowTheGraph_sleeping :
    ModeOk { stand 0x00 with showReq := true } ∧ PhaseOk { stand 0x00 with showReq := true } ∧
    peek (exec .slpEval { stand 0x00 with showReq := true }) (fun t => t.mode) = some 1 ∧
    ModeOk { stand 0x00 with ledReq := true } ∧ PhaseOk { stand 0x00 with ledReq := true } ∧
    peek (exec .slpEval { stand 0x00 with ledReq := true }) (fun t => t.mode) = some 3 := by
  refine ⟨by decide, by decide, by decide, by decide, by decide, by decide⟩

/-- The edge from ShowingTime to SettingTime. -/
theorem witness_ModeChangesFollowTheGraph_showing :
    let s := { stand 0x09 with mode := 1, btnN := false }
    ModeOk s ∧ PhaseOk s ∧ peek (exec .shwExpire s) (fun t => t.mode) = some 2 := by
  refine ⟨by decide, by decide, by decide⟩

/-- The edges back to Sleeping. -/
theorem witness_ModeChangesFollowTheGraph_exits :
    (∀ m ∈ ([1, 2] : List (BitVec 2)), ModeOk { stand 0x0A with mode := m } ∧ PhaseOk { stand 0x0A with mode := m } ∧
      peek (exec .exitOff { stand 0x0A with mode := m }) (fun t => t.mode) = some 0) ∧
    ModeOk { stand 0x25 with mode := 3 } ∧ PhaseOk { stand 0x25 with mode := 3 } ∧
    peek (exec .ledExit { stand 0x25 with mode := 3 }) (fun t => t.mode) = some 0 := by
  refine ⟨by decide, by decide, by decide, by decide⟩

/-- The steps that lead to those edges: expiry with the button up, the early exit of a tap. -/
theorem witness_ModeChangesFollowTheGraph_showing_ends :
    let s := { stand 0x09 with mode := 1 }
    let u := { stand 0x08 with mode := 1, hit := true }
    ModeOk s ∧ PhaseOk s ∧ peek (exec .shwExpire s) (fun t => t.phase) = some 0x0A ∧
    ModeOk u ∧ PhaseOk u ∧ peek (exec .shwPoll u) (fun t => t.phase) = some 0x0A := by
  refine ⟨by decide, by decide, by decide, by decide, by decide, by decide⟩

/-- IDLE at its threshold, and the window of LedToggle over. -/
theorem witness_ModeChangesFollowTheGraph_other_ends :
    let s := { stand 0x11 with mode := 2, idle := 2000 }
    let u := { stand 0x24 with mode := 3, t0 := 700, ms := 2700 }
    ModeOk s ∧ PhaseOk s ∧ peek (exec .setHead s) (fun t => t.phase) = some 0x0A ∧
    ModeOk u ∧ PhaseOk u ∧ peek (exec .ledLoop u) (fun t => t.phase) = some 0x25 := by
  refine ⟨by decide, by decide, by decide, by decide, by decide, by decide⟩

theorem witness_StepsKeepTimeNormalised :
    ConfigOk { State.reset with ip := 0b001 } ∧ TimeOk { State.reset with ip := 0b001 } ∧
    peek (step { State.reset with ip := 0b001 }) (fun t => t.sec) = some 8 := by decide

theorem witness_StepsKeepTheRestRule :
    PhaseOk { stand 0x32 with ret := 0x06 } ∧ LinesOk { stand 0x32 with ret := 0x06 } ∧ PosOk { stand 0x32 with ret := 0x06 } ∧
    peek (step { stand 0x32 with ret := 0x06 }) (fun t => (t.phase, t.dig)) = some (0x33, 1) := by decide

theorem witness_PowerOnEstablishesInvariant :
    Cfg.default.wf = true ∧ { Cfg.default with tickPeriodS := 0 }.wf = false := by decide

/-- The invariant at reset, with the step from there; and in the middle of a lit position. -/
theorem witness_StepsKeepTheInvariant : Inv State.reset ∧ peek (step State.reset) (fun t => t.phase) = some 0x00 := by
  refine ⟨⟨by decide, by decide, by decide, by decide, by decide, by decide, by decide, by decide, by decide, by decide, by decide,
    by decide⟩, by decide⟩

theorem witness_StepsKeepTheInvariant_lit :
    let s := { stand 0x33 with mode := 1, ret := 0x06, led := true, showReq := true, wt := 2000, dig := 1, colonN := false, colon := true }
    Inv s ∧ peek (step s) (fun t => (t.now, t.dig)) = some (2000, 1) := by
  refine ⟨⟨by decide, by decide, by decide, by decide, by decide, by decide, by decide, by decide, by decide, by decide, by decide,
    by decide⟩, by decide⟩

theorem witness_NoStepFaults :
    { State.reset with tcnt := 7999999, halt := true }.tcnt.toNat < { State.reset with tcnt := 7999999, halt := true }.cfg.periodUs := by
  decide

/-- An operation refused, for each of the three reasons. -/
theorem witness_RefusalsOnlyAtTheBoundary :
    refusedAs (exec .auxRelease State.reset) .levelRepeat = true ∧
    refusedAs (exec .reset { State.reset with straps := { Cfg.default with dwellUs := 0 } }) .illFormedConfig = true ∧
    refusedAs (exec .bcd4 { State.reset with fn := { FnPort.zero with value := 10000 } }) .valueTooLarge = true := by decide

/-- A step refused, for each of the five reasons in the order of the statement. -/
theorem witness_RefusalsOnlyAtTheBoundary_step :
    refusedAs (step { State.reset with sched := [.op8 0x0B] }) (.undecodable (.reservedOp 0x0B)) = true ∧
    refusedAs (step { State.reset with sched := [.dt 3] }) (.undecodable (.strayOperand 3)) = true ∧
    refusedAs (step { State.reset with sched := [.op8 0x80, .op8 0x33] }) (.undecodable .missingOperand) = true ∧
    refusedAs (step { State.reset with sched := encode .btnRelease }) .levelRepeat = true ∧
    refusedAs (step { State.reset with inputs := [(0, .btnRelease)] }) .levelRepeat = true := by decide

end Sys2Proof.Machine.Tests
end

section
/-! SUPPORT. The decoder and the schedule as facts other proofs cite: which words an operation was read from, why words are refused, and
which operation a step runs. -/
namespace Sys2Proof.Machine

/-- The decoder's row of an OP8 code is the operation whose word is that code (R96, R103). -/
theorem encode_of_decodeOp : ∀ (c : OpCode), ∀ i ∈ decodeOp c, encode i = [.op8 c] := by decide

/-- Every digit symbol is read as the operation whose word it is (R122). -/
theorem encode_decodeDSym : ∀ d : DSym, encode (decodeDSym d) = [.dsym4 d] := by decide

/-- Every glyph symbol is read as the operation whose word it is (R104, R124). -/
theorem encode_decodeGlyph : ∀ c : GSym, encode (decodeGlyph c) = [.gsym8 c] := by decide

/-- What the decoder reads is what the encoder writes: the words before the rest are the operation's own (R98, R107). -/
theorem eq_encode_of_decode {ws rest : List TraceWord} {i : Instr} (h : decode ws = .ok (i, rest)) :
    ws = encode i ++ rest := by
  match ws with
  | [] => cases h
  | .dt n :: ws => cases h
  | .dsym4 d :: ws => cases h; rw [encode_decodeDSym]; rfl
  | .gsym8 c :: ws => cases h; rw [encode_decodeGlyph]; rfl
  | .op8 c :: ws =>
    by_cases hc : c = advanceCode
    · subst hc
      match ws with
      | .dt n :: ws => cases h; rfl
      | [] | .op8 _ :: _ | .dsym4 _ :: _ | .gsym8 _ :: _ => cases h
    · cases ho : decodeOp c with
      | none => simp [decode, hc, ho] at h
      | some j =>
        obtain ⟨rfl, rfl⟩ : j = i ∧ ws = rest := by simpa [decode, hc, ho] using h
        rw [encode_of_decodeOp c j ho]; rfl

/-- Why words encode no operation: there is none, a reserved code, a stray operand, or ADVANCE without its operand (R98, R105). -/
theorem decode_error_cases {ws : List TraceWord} {e : DecodeErr} (h : decode ws = .error e) :
    (ws = [] ∧ e = .noWord) ∨
    (∃ c rest, ws = .op8 c :: rest ∧ c ≠ advanceCode ∧ decodeOp c = none ∧ e = .reservedOp c) ∨
    (∃ n rest, ws = .dt n :: rest ∧ e = .strayOperand n) ∨
    (∃ rest, ws = .op8 advanceCode :: rest ∧ (∀ n w, rest ≠ .dt n :: w) ∧ e = .missingOperand) := by
  match ws with
  | [] => cases h; exact .inl ⟨rfl, rfl⟩
  | .dt n :: ws => cases h; exact .inr (.inr (.inl ⟨n, ws, rfl, rfl⟩))
  | .dsym4 d :: ws => cases h
  | .gsym8 c :: ws => cases h
  | .op8 c :: ws =>
    by_cases hc : c = advanceCode
    · subst hc
      match ws with
      | .dt n :: ws => cases h
      | [] | .op8 _ :: _ | .dsym4 _ :: _ | .gsym8 _ :: _ => cases h; exact .inr (.inr (.inr ⟨_, rfl, by simp, rfl⟩))
    · cases ho : decodeOp c with
      | none =>
        have he : DecodeErr.reservedOp c = e := by simpa [decode, hc, ho] using h
        exact .inr (.inl ⟨c, ws, rfl, hc, ho, he.symm⟩)
      | some j => simp [decode, hc, ho] at h

/-- With words that decode at the head of the schedule, the step is their operation (R98, R107). -/
theorem step_of_decode_ok {s : State} {i : Instr} {rest : List TraceWord} (h : decode s.sched = .ok (i, rest)) :
    step s = exec i { s with sched := rest } := by
  cases hs : s.sched with
  | nil => rw [hs] at h; cases h
  | cons w ws =>
    rw [hs] at h
    simp only [step, hs, State.fetch, h]

/-- With words that do not decode, the step is refused by name (R105). -/
theorem step_of_decode_error {s : State} {e : DecodeErr} (hs : s.sched ≠ []) (h : decode s.sched = .error e) :
    step s = .refused (.undecodable e) := by
  cases hw : s.sched with
  | nil => exact absurd hw hs
  | cons w ws =>
    rw [hw] at h
    simp only [step, hw, State.fetch, h]

/-- With an empty schedule, the step is the operation of the nominal schedule (R7). -/
theorem step_of_nominal {s t : State} {i : Instr} (hs : s.sched = []) (h : s.nominal = some (i, t)) : step s = exec i t := by
  simp only [step, hs, nominalStep, h]

/-- With an empty schedule and nothing in the nominal one, the step is stuck (log 13). -/
theorem step_of_nominal_none {s : State} (hs : s.sched = []) (h : s.nominal = none) : step s = .fault .stuck := by
  simp only [step, hs, nominalStep, h]

/-- The next scripted input change goes first once it is due (log 2). -/
theorem nominal_of_due {s : State} {e : Nat × InputEvent} {rest : List (Nat × InputEvent)} (hi : s.inputs = e :: rest)
    (hd : e.1 ≤ s.now) : s.nominal = some (e.2.instr, { s with inputs := rest }) := by
  simp only [State.nominal, hi, hd, if_true]

/-- While no input change is due, the nominal schedule is the inner choice on the same state (R7). -/
theorem nominal_of_not_due {s : State} (hq : ∀ e ∈ s.inputs.head?, s.now < e.1) :
    s.nominal = s.nominalInner.map fun i => (i, s) := by
  cases hi : s.inputs with
  | nil => simp only [State.nominal, hi]
  | cons e rest =>
    have hlt : ¬ e.1 ≤ s.now := Nat.not_le.2 (hq e (by simp [hi]))
    simp only [State.nominal, hi, hlt, if_false]

/-- With an empty schedule and no input change due, the step is the inner choice's operation (R7). -/
theorem step_of_nominalInner {s : State} {i : Instr} (hs : s.sched = []) (hq : ∀ e ∈ s.inputs.head?, s.now < e.1)
    (h : s.nominalInner = some i) : step s = exec i s :=
  step_of_nominal hs (by rw [nominal_of_not_due hq, h]; rfl)

/-- The nominal schedule's own operation is an enabled handler, MAIN's step or ADVANCE. -/
theorem nominalInner_cases {s : State} {i : Instr} (h : s.nominalInner = some i) :
    s.nominalIrq = some i ∨ s.nominalMain = some i ∨ i = .advance s.nominalDt := by
  unfold State.nominalInner at h
  split at h
  · exact .inl (by simp_all)
  · split at h
    · exact .inr (.inl (by simp_all))
    · split at h <;> simp_all

/-- The nominal schedule's handler is one of the three (R310 to R312). -/
theorem nominalIrq_cases {s : State} {i : Instr} (h : s.nominalIrq = some i) : i = .irqTick ∨ i = .irqBtn ∨ i = .irqAux := by
  unfold State.nominalIrq at h
  split_ifs at h <;> simp_all

/-- MAIN's step in the nominal schedule is the one PHASE selects (R32). -/
theorem mainInstr_of_nominalMain {s : State} {i : Instr} (h : s.nominalMain = some i) : mainInstr s.phase = some i := by
  unfold State.nominalMain at h
  split_ifs at h
  exact h

end Sys2Proof.Machine
end

section
/-! SUPPORT. Which operations can be refused, and a step's refusals (R12). -/
namespace Sys2Proof.Machine

/-- A press is refused exactly where the button is down (R304). -/
theorem execBtnPress_refused_iff (s : State) (r : Refusal) :
    execBtnPress s = .refused r ↔ r = .levelRepeat ∧ s.btnN = false := by
  unfold execBtnPress
  split
  · simp [*]
  · simpa [*] using eq_comm

/-- A release is refused exactly where the button is up (R304). -/
theorem execBtnRelease_refused_iff (s : State) (r : Refusal) :
    execBtnRelease s = .refused r ↔ r = .levelRepeat ∧ s.btnN = true := by
  unfold execBtnRelease
  split
  · simpa [*] using eq_comm
  · simp [*]

/-- A touch is refused exactly where AUX is touched (R304). -/
theorem execAuxPress_refused_iff (s : State) (r : Refusal) :
    execAuxPress s = .refused r ↔ r = .levelRepeat ∧ s.aux = true := by
  unfold execAuxPress
  split
  · simpa [*] using eq_comm
  · simp [*]

/-- The end of a touch is refused exactly where AUX is released (R304). -/
theorem execAuxRelease_refused_iff (s : State) (r : Refusal) :
    execAuxRelease s = .refused r ↔ r = .levelRepeat ∧ s.aux = false := by
  unfold execAuxRelease
  split
  · simp [*]
  · simpa [*] using eq_comm

/-- RESET is refused exactly where the straps are ill formed (R47, R350). -/
theorem execReset_refused_iff (s : State) (r : Refusal) :
    execReset s = .refused r ↔ r = .illFormedConfig ∧ s.straps.wf = false := by
  unfold execReset
  split
  · simp [*]
  · simpa [*] using eq_comm

/-- BCD4 is refused exactly above 9999 (R104). -/
theorem execBcd4_refused_iff (s : State) (r : Refusal) :
    execBcd4 s = .refused r ↔ r = .valueTooLarge ∧ 9999 < s.fn.value.toNat := by
  unfold execBcd4 maxValue
  split
  · simp [*]
  · simpa [Nat.lt_of_not_le ‹_›] using eq_comm

/-- An operation is refused by the environment's boundary only: the four input events, RESET, and BCD4 (R12). A step of MAIN, a handler
and ADVANCE are held where they are not enabled; the other functions always answer. -/
theorem exec_refused_cases {i : Instr} {s : State} {r : Refusal} (h : exec i s = .refused r) :
    (r = .levelRepeat ∧ (i = .btnPress ∧ s.btnN = false ∨ i = .btnRelease ∧ s.btnN = true ∨ i = .auxPress ∧ s.aux = true ∨
      i = .auxRelease ∧ s.aux = false)) ∨
    (r = .illFormedConfig ∧ i = .reset ∧ s.straps.wf = false) ∨
    (r = .valueTooLarge ∧ i = .bcd4 ∧ 9999 < s.fn.value.toNat) := by
  cases i with
  | btnPress => simpa using (execBtnPress_refused_iff s r).1 h
  | btnRelease => simpa using (execBtnRelease_refused_iff s r).1 h
  | auxPress => simpa using (execAuxPress_refused_iff s r).1 h
  | auxRelease => simpa using (execAuxRelease_refused_iff s r).1 h
  | reset => simpa using (execReset_refused_iff s r).1 h
  | bcd4 => simpa using (execBcd4_refused_iff s r).1 h
  | slpEval | shwDb0 | shwDb1 | shwDb2 | shwBegin | shwHead | shwDark | shwDarkw | shwPoll | shwExpire | exitOff
  | setBegin | setHead | setBlink | setBdark | setBdarkw | setPoll | setLock | setMut | setUnlock | setAcc
  | ledDb0 | ledDb1 | ledDb2 | ledBegin | ledLoop | ledExit | rnSnap | rgLoad | ddOn | ddHold | ddOff
  | bootHead | bootFrame | bootDark | bootDarkw | irqTick | irqBtn | irqAux | advance dt =>
    cases (takeWhen_eq_next _ _ _).symm.trans h
  | _ => cases h

/-- A step MAIN takes is never refused: the codes of the operations that can be lie outside PHASE6 (R98). -/
theorem exec_ne_refused_of_mainInstr {p : Phase} {i : Instr} (hi : mainInstr p = some i) (s : State) (r : Refusal) :
    exec i s ≠ .refused r := by
  intro h
  have hw : encode i = [.op8 (p.setWidth 8)] := encode_of_decodeOp _ i hi
  have hlt : (p.setWidth 8).toNat < 64 := by simp; omega
  have hcode : ∀ c : OpCode, 64 ≤ c.toNat → encode i ≠ [.op8 c] := by
    intro c hc he
    have hpc : p.setWidth 8 = c := by simpa [hw] using he
    rw [hpc] at hlt
    omega
  rcases exec_refused_cases h with ⟨-, ⟨rfl, -⟩ | ⟨rfl, -⟩ | ⟨rfl, -⟩ | ⟨rfl, -⟩⟩ | ⟨-, rfl, -⟩ | ⟨-, rfl, -⟩ <;>
    exact hcode _ (by decide) rfl

/-- No operation the nominal schedule chooses by itself is refused (R7, R12). -/
theorem exec_ne_refused_of_nominalInner {s : State} {i : Instr} (hi : s.nominalInner = some i) (t : State) (r : Refusal) :
    exec i t ≠ .refused r := by
  rcases nominalInner_cases hi with hirq | hmain | rfl
  · intro h
    rcases nominalIrq_cases hirq with rfl | rfl | rfl <;> simpa using exec_refused_cases h
  · exact exec_ne_refused_of_mainInstr (mainInstr_of_nominalMain hmain) t r
  · intro h
    simpa using exec_refused_cases h

/-- A nominal step is refused only for the scripted input change that is due (R7, R304). -/
theorem step_refused_of_sched_nil {s : State} {r : Refusal} (hs : s.sched = []) (h : step s = .refused r) :
    ∃ e rest, s.inputs = e :: rest ∧ e.1 ≤ s.now ∧ exec e.2.instr { s with inputs := rest } = .refused r := by
  by_cases hq : ∀ e ∈ s.inputs.head?, s.now < e.1
  · cases hn : s.nominalInner with
    | none =>
      rw [step_of_nominal_none hs (by rw [nominal_of_not_due hq, hn]; rfl)] at h
      cases h
    | some i =>
      rw [step_of_nominalInner hs hq hn] at h
      exact absurd h (exec_ne_refused_of_nominalInner hn s r)
  · cases hi : s.inputs with
    | nil => simp [hi] at hq
    | cons e rest =>
      have hd : e.1 ≤ s.now := by simpa [hi] using hq
      exact ⟨e, rest, rfl, hd, by rw [← step_of_nominal hs (nominal_of_due hi hd), h]⟩

/-- Settles O60: an operation's refusals from the cases of exec; a step's from the decoder's errors, the decoded operation, or the input
change that is due. -/
theorem refusalsOnlyAtTheBoundary : Obligations.RefusalsOnlyAtTheBoundary := by
  refine ⟨fun i s r => exec_refused_cases, fun s r h => ?_⟩
  by_cases hs : s.sched = []
  · obtain ⟨e, rest, hi, hd, he⟩ := step_refused_of_sched_nil hs h
    exact .inr (.inr (.inr (.inr ⟨e, rest, hs, hi, hd, he⟩)))
  · cases hd : decode s.sched with
    | ok p =>
      obtain ⟨i, rest⟩ := p
      rw [step_of_decode_ok hd] at h
      exact .inr (.inr (.inr (.inl ⟨i, rest, eq_encode_of_decode hd, h⟩)))
    | error e =>
      rw [step_of_decode_error hs hd] at h
      cases h
      rcases decode_error_cases hd with ⟨hnil, -⟩ | ⟨c, rest, hw, hc, ho, rfl⟩ | ⟨n, rest, hw, rfl⟩ | ⟨rest, hw, hdt, rfl⟩
      · exact absurd hnil hs
      · exact .inl ⟨c, rest, hw, hc, ho, rfl⟩
      · exact .inr (.inl ⟨n, rest, hw, rfl⟩)
      · exact .inr (.inr (.inl ⟨rest, hw, hdt, rfl⟩))

end Sys2Proof.Machine
end

section
/-! SUPPORT. How far the nominal schedule lets time pass, and the order of the nominal schedule (R7). -/
namespace Sys2Proof.Machine

/-- A bound and a number there may be: the lesser of them is one of them. -/
theorem atMost_mem (bound : Nat) (o : Option Nat) : atMost bound o ∈ bound :: o.toList := by
  cases o with
  | none => simp [atMost]
  | some n => rcases Nat.le_total n bound with h | h <;> simp [atMost, h]

/-- A bound and a number there may be: the lesser of them is below both. -/
theorem atMost_le (bound : Nat) (o : Option Nat) : ∀ d ∈ bound :: o.toList, atMost bound o ≤ d := by
  cases o <;> simp [atMost]

/-- The microseconds until each event that can end an ADVANCE of the nominal schedule: the next tick, the release of MAIN's pending wait,
the next scripted input change (R7). -/
def State.waits (s : State) : List Nat := (s.cfg.periodUs - s.tcnt.toNat) :: (s.waitLeft.toList ++ s.inputLeft.toList)

/-- The nominal amount of time reaches one of the events. -/
theorem nominalDt_mem_waits (s : State) : s.nominalDt ∈ s.waits := by
  have hinner := atMost_mem (s.cfg.periodUs - s.tcnt.toNat) s.waitLeft
  have houter := atMost_mem (atMost (s.cfg.periodUs - s.tcnt.toNat) s.waitLeft) s.inputLeft
  simp only [State.nominalDt, State.waits, List.mem_cons, List.mem_append] at *
  rcases houter with h | h
  · rw [h]; tauto
  · tauto

/-- The nominal amount of time passes none of the events. -/
theorem nominalDt_le_of_mem_waits {s : State} {d : Nat} (hd : d ∈ s.waits) : s.nominalDt ≤ d := by
  have hinner := atMost_le (s.cfg.periodUs - s.tcnt.toNat) s.waitLeft
  have houter := atMost_le (atMost (s.cfg.periodUs - s.tcnt.toNat) s.waitLeft) s.inputLeft
  simp only [State.waits, List.mem_cons, List.mem_append] at hd
  have hbound : s.nominalDt ≤ atMost (s.cfg.periodUs - s.tcnt.toNat) s.waitLeft := houter _ (by simp)
  rcases hd with rfl | hd | hd
  · exact hbound.trans (hinner _ (by simp))
  · exact hbound.trans (hinner _ (by simp [hd]))
  · exact houter _ (by simp [hd])

/-- MS - T0 on the 32-bit counter, over the naturals (R50). -/
theorem elapsedMs_eq (s : State) : s.elapsedMs = (s.ms.toNat + 2 ^ 32 - s.t0.toNat) % 2 ^ 32 := by
  rw [State.elapsedMs, BitVec.toNat_sub]
  congr 1
  omega

/-- The window of LedToggle is open while fewer milliseconds have passed than it lasts (R236). -/
theorem ledOver_eq_false_iff (s : State) : s.ledOver = false ↔ s.elapsedMs < s.cfg.ledWindowMs.toNat := by
  simp [State.ledOver]

/-- A halted MAIN waits for no time (R49). -/
theorem waitLeft_of_halt {s : State} (hh : s.halt = true) : s.waitLeft = none := by
  simp [State.waitLeft, hh]

/-- In a phase of a timed wait that is not over, MAIN waits for WT (R27, R96). -/
theorem waitLeft_of_timer {s : State} (hh : s.halt = false) (hp : waitsForTimer s.phase = true) (hw : s.wt ≠ 0) :
    s.waitLeft = some s.wt.toNat := by
  have hc : (waitsForTimer s.phase && s.wt != 0) = true := by simpa [hp] using hw
  simp only [State.waitLeft, hh, hc, Bool.false_eq_true, if_false, if_true]

/-- In LED_LOOP with its window open, MAIN waits for the window's end (R236). -/
theorem waitLeft_of_ledLoop {s : State} (hh : s.halt = false) (hp : s.phase = phLedLoop) (ho : s.ledOver = false) :
    s.waitLeft = some ((s.cfg.ledWindowMs.toNat - s.elapsedMs) * 1000 - s.now % 1000) := by
  rw [State.waitLeft, hh, hp, ho]
  rfl

/-- In every other phase MAIN waits for no time (R96). -/
theorem waitLeft_of_untimed {s : State} (hp : waitsForTimer s.phase = false) (hl : s.phase ≠ phLedLoop) : s.waitLeft = none := by
  have hne : (s.phase == phLedLoop) = false := beq_eq_false_iff_ne.2 hl
  simp only [State.waitLeft, hp, hne, Bool.false_and, Bool.false_eq_true, if_false, ite_self]

/-- A MAIN that runs and is not enabled at its own phase is one whose condition does not hold (R32, R96). -/
theorem phaseReady_of_not_mainEnabled {s : State} (hm : s.mainEnabled s.phase = false) (hh : s.halt = false) :
    s.phaseReady s.phase = false := by
  simpa [State.mainEnabled, hh] using hm

/-- LED_LOOP that is not enabled has its window open (R96, R236). -/
theorem ledOver_of_not_ready {s : State} (hr : s.phaseReady phLedLoop = false) : s.ledOver = false := by
  have hfree : s.phaseReady phLedLoop = (s.ledOver || (s.aux != s.auxp)) := rfl
  rw [hfree, Bool.or_eq_false_iff] at hr
  exact hr.1

/-- Where MAIN is not enabled, the times at which its pending wait is released: WT from NOW on, or the millisecond of NOW at which the
window of LedToggle is over (R7, R27, R236). -/
theorem release_times_eq {s : State} (hm : s.mainEnabled s.phase = false) :
    ((if s.halt = false ∧ waitsForTimer s.phase = true then [s.now + s.wt.toNat] else []) ++
      (if s.halt = false ∧ s.phase = phLedLoop then
        [(s.now / 1000 + (s.cfg.ledWindowMs.toNat - s.elapsedMs)) * 1000] else [])) =
      s.waitLeft.toList.map (s.now + ·) := by
  cases hh : s.halt with
  | true => simp [waitLeft_of_halt hh]
  | false =>
    have hr := phaseReady_of_not_mainEnabled hm hh
    by_cases hl : s.phase = phLedLoop
    · rw [hl] at hr
      have ho := ledOver_of_not_ready hr
      have hlt := (ledOver_eq_false_iff s).1 ho
      have ht : waitsForTimer phLedLoop = false := by decide
      simp only [waitLeft_of_ledLoop hh hl ho, hl, ht, Bool.false_eq_true, and_false, and_self, if_false, if_true,
        List.nil_append, Option.toList_some, List.map_cons, List.map_nil, List.cons.injEq, and_true]
      omega
    · cases ht : waitsForTimer s.phase with
      | true =>
        have hw : s.wt ≠ 0 := by simpa [phaseReady_timer ht] using hr
        simp only [waitLeft_of_timer hh ht hw, hl, and_false, and_self, if_false, if_true, List.append_nil,
          Option.toList_some, List.map_cons, List.map_nil]
      | false =>
        simp only [waitLeft_of_untimed ht hl, hl, Bool.false_eq_true, and_false, if_false, List.append_nil,
          Option.toList_none, List.map_nil]

/-- The time of the next scripted input change, while it is not due (R7). -/
theorem input_time_eq {s : State} (hq : ∀ e ∈ s.inputs.head?, s.now < e.1) :
    (s.inputs.take 1).map (·.1) = s.inputLeft.toList.map (s.now + ·) := by
  cases hi : s.inputs with
  | nil => simp [State.inputLeft, hi]
  | cons e rest =>
    have hlt : s.now < e.1 := hq e (by simp [hi])
    simpa [State.inputLeft, hi] using (Nat.add_sub_of_le hlt.le).symm

/-- A pending wait takes some time still. -/
theorem waitLeft_pos {s : State} {d : Nat} (hd : s.waitLeft = some d) : 1 ≤ d := by
  unfold State.waitLeft at hd
  split_ifs at hd with hh ht hl
  · obtain ⟨-, hw⟩ : waitsForTimer s.phase = true ∧ s.wt ≠ 0 := by simpa using ht
    cases hd
    bv_omega
  · obtain ⟨-, ho⟩ : s.phase = phLedLoop ∧ s.ledOver = false := by simpa using hl
    have hlt := (ledOver_eq_false_iff s).1 ho
    cases hd
    omega

/-- Before the next tick and with no input change due, every event lies ahead of NOW. -/
theorem waits_pos {s : State} (hq : ∀ e ∈ s.inputs.head?, s.now < e.1) (ht : s.tcnt.toNat < s.cfg.periodUs) :
    ∀ d ∈ s.waits, 1 ≤ d := by
  intro d hd
  simp only [State.waits, List.mem_cons, List.mem_append, Option.mem_toList] at hd
  rcases hd with rfl | hd | hd
  · omega
  · exact waitLeft_pos hd
  · obtain ⟨e, he, rfl⟩ := Option.map_eq_some_iff.1 hd
    have := hq e he
    omega

/-- An enabled handler is the nominal choice (R7). -/
theorem nominalInner_of_irq {s : State} {i : Instr} (h : s.nominalIrq = some i) : s.nominalInner = some i := by
  simp only [State.nominalInner, h]

/-- The order of the handlers in the nominal schedule: TICK, BTN, AUX (log 2). -/
theorem nominalIrq_of_tick {s : State} (h : s.irqEnabled srcTick = true) : s.nominalIrq = some .irqTick := by
  simp only [State.nominalIrq, h, if_true]

theorem nominalIrq_of_btn {s : State} (h0 : s.irqEnabled srcTick = false) (h : s.irqEnabled srcBtn = true) :
    s.nominalIrq = some .irqBtn := by
  simp [State.nominalIrq, h0, h]

theorem nominalIrq_of_aux {s : State} (h0 : s.irqEnabled srcTick = false) (h1 : s.irqEnabled srcBtn = false)
    (h : s.irqEnabled srcAux = true) : s.nominalIrq = some .irqAux := by
  simp [State.nominalIrq, h0, h1, h]

theorem nominalIrq_none {s : State} (h0 : s.irqEnabled srcTick = false) (h1 : s.irqEnabled srcBtn = false)
    (h2 : s.irqEnabled srcAux = false) : s.nominalIrq = none := by
  simp [State.nominalIrq, h0, h1, h2]

/-- With no handler enabled, MAIN's enabled step is the nominal choice (R7). -/
theorem nominalInner_of_main {s : State} {i : Instr} (hirq : s.nominalIrq = none) (hm : s.mainEnabled s.phase = true)
    (hi : mainInstr s.phase = some i) : s.nominalInner = some i := by
  simp only [State.nominalInner, hirq, State.nominalMain, hm, hi, if_true]

/-- With neither a handler nor MAIN enabled, the nominal choice is the passing of time (R7). -/
theorem nominalInner_of_time {s : State} (hirq : s.nominalIrq = none) (hm : s.mainEnabled s.phase = false)
    (hdt : 1 ≤ s.nominalDt) : s.nominalInner = some (.advance s.nominalDt) := by
  have hne : s.nominalDt ≠ 0 := by omega
  simp [State.nominalInner, hirq, State.nominalMain, hm, hne]

/-- Settles O5: each clause is a case of the nominal choice; the events' times are NOW plus the model's waits, and the nominal amount is the
least of these. -/
theorem nominalScheduleOrder : Obligations.NominalScheduleOrder := by
  intro s hs hq passed ends
  refine ⟨fun h0 => ?_, fun h0 h1 => ?_, fun h0 h1 h2 => ?_, fun h0 h1 h2 => ⟨fun i hi hm => ?_, fun hm ht => ?_⟩⟩
  · exact step_of_nominalInner hs hq (nominalInner_of_irq (nominalIrq_of_tick h0))
  · exact step_of_nominalInner hs hq (nominalInner_of_irq (nominalIrq_of_btn h0 h1))
  · exact step_of_nominalInner hs hq (nominalInner_of_irq (nominalIrq_of_aux h0 h1 h2))
  · exact step_of_nominalInner hs hq (nominalInner_of_main (nominalIrq_none h0 h1 h2) hm hi)
  · have hpos : 1 ≤ s.nominalDt := waits_pos hq ht _ (nominalDt_mem_waits s)
    have hends : ends = s.waits.map (s.now + ·) := by
      simp only [ends, passed, ← elapsedMs_eq, input_time_eq hq, State.waits, List.map_cons, List.map_append,
        ← release_times_eq hm, List.append_assoc, List.cons_append, List.nil_append]
    refine ⟨s.nominalDt, hpos, ?_, ?_, ?_⟩
    · exact step_of_nominalInner hs hq (nominalInner_of_time (nominalIrq_none h0 h1 h2) hm hpos)
    · rw [hends]
      exact List.mem_map_of_mem (nominalDt_mem_waits s)
    · intro e he
      rw [hends] at he
      obtain ⟨d, hd, rfl⟩ := List.mem_map.1 he
      exact Nat.add_le_add_left (nominalDt_le_of_mem_waits hd) s.now

end Sys2Proof.Machine
end

section
/-! SUPPORT. What one operation can do, by the agent it belongs to: MAIN's steps, the three handlers, ADVANCE, RESET, and the
operations that write the pending bits, the input levels and the model's wires only. -/
namespace Sys2Proof.Machine

/-- A MAIN step keeps what holds before it and what its effect establishes where it is taken (R32, R96). -/
theorem mainStep_keeps {P : State → Prop} {p : Phase} {t s u : State} (h : mainStep p t s = .next u) (hs : P s)
    (ht : s.halt = false → s.phase = p → P t) : P u := by
  rcases mainStep_cases h with ⟨hh, hp, -, rfl⟩ | ⟨-, rfl⟩
  · exact ht hh hp
  · exact hs

/-- A handler step keeps what holds before it and what the interrupt establishes where it is taken (R310 to R313). -/
theorem handlerStep_keeps {P : State → Prop} {n : Nat} {body : State → State} {s u : State} (h : handlerStep n body s = .next u)
    (hs : P s) (ht : P { (body s).clearPending n with halt := false }) : P u := by
  rcases handlerStep_cases h with ⟨-, rfl⟩ | ⟨-, rfl⟩
  · exact ht
  · exact hs

/-- A MAIN step leaves unchanged what its effect leaves unchanged. -/
theorem mainStep_frame {α : Type} (f : State → α) {p : Phase} {t s u : State} (h : mainStep p t s = .next u) (ht : f t = f s) :
    f u = f s :=
  mainStep_keeps (P := fun v => f v = f s) h rfl fun _ _ => ht

/-- Each operation with a PHASE code is a MAIN step of that phase (R96, R98). -/
theorem exec_eq_mainStep {i : Instr} {p : Phase} (hp : mainPhase i = some p) (s : State) :
    ∃ t, exec i s = mainStep p t s := by
  cases i with
  | slpEval | shwDb0 | shwDb1 | shwDb2 | shwBegin | shwHead | shwDark | shwDarkw | shwPoll | shwExpire | exitOff
  | setBegin | setHead | setBlink | setBdark | setBdarkw | setPoll | setLock | setMut | setUnlock | setAcc
  | ledDb0 | ledDb1 | ledDb2 | ledBegin | ledLoop | ledExit | rnSnap | rgLoad | ddOn | ddHold | ddOff
  | bootHead | bootFrame | bootDark | bootDarkw => cases hp; exact ⟨_, rfl⟩
  | _ => cases hp

/-- Settles O26: an operation with a PHASE code is a MAIN step of that phase, and such a step is held while it is not enabled. -/
theorem mainStepsHeldElsewhere : Obligations.MainStepsHeldElsewhere := by
  intro s i p hp hs
  obtain ⟨t, ht⟩ := exec_eq_mainStep hp s
  have hheld : s.mainEnabled p = false := by
    rw [Bool.eq_false_iff, Ne, mainEnabled_iff]
    rintro ⟨hh, hph, -⟩
    rcases hs with h | h
    · simp [hh] at h
    · exact h hph
  rw [ht, mainStep_held hheld]

/-- A state with the pending bits, the input levels and the model's wires as in another one. -/
def State.withInputs (s u : State) : State :=
  { s with ip := u.ip, tickOverrun := u.tickOverrun, btnN := u.btnN, aux := u.aux, fn := u.fn }

/-- TICK_RAISE writes the tick's pending bit or TICK_OVERRUN only (R309). -/
theorem tickRaise_eq_withInputs (s : State) : s.tickRaise = s.withInputs s.tickRaise := by
  rcases tickRaise_cases s with ⟨-, h⟩ | ⟨-, h⟩ <;> rw [h] <;> rfl

/-- ADVANCE writes NOW, MS, WT, TCNT and the tick's bits only (R321). -/
theorem advanceBy_eq_withInputs (s : State) (dt : Nat) :
    s.advanceBy dt = { (s.passTime dt).withInputs (s.advanceBy dt) with tcnt := (s.advanceBy dt).tcnt } := by
  rcases advanceBy_cases s dt with ⟨-, h⟩ | ⟨-, h⟩ <;> rw [h]
  · rcases tickRaise_cases { s.passTime dt with tcnt := 0 } with ⟨-, h⟩ | ⟨-, h⟩ <;> rw [h] <;> rfl
  · rfl

/-- Every next state differs in the pending bits, the input levels and the wires only, or is ADVANCE's, one of MAIN's, a handler's or
RESET's. -/
theorem exec_cases {i : Instr} {s t : State} (h : exec i s = .next t) :
    t = s.withInputs t ∨ (∃ dt, s.advanceEnabled dt = true ∧ t = s.advanceBy dt) ∨ (∃ p, mainPhase i = some p) ∨
      i = .irqTick ∨ i = .irqBtn ∨ i = .irqAux ∨ i = .reset := by
  cases i with
  | slpEval | shwDb0 | shwDb1 | shwDb2 | shwBegin | shwHead | shwDark | shwDarkw | shwPoll | shwExpire | exitOff
  | setBegin | setHead | setBlink | setBdark | setBdarkw | setPoll | setLock | setMut | setUnlock | setAcc
  | ledDb0 | ledDb1 | ledDb2 | ledBegin | ledLoop | ledExit | rnSnap | rgLoad | ddOn | ddHold | ddOff
  | bootHead | bootFrame | bootDark | bootDarkw => exact .inr (.inr (.inl ⟨_, rfl⟩))
  | irqTick | irqBtn | irqAux | reset => simp
  | advance dt =>
    obtain ⟨hdt, rfl⟩ | ⟨-, rfl⟩ := takeWhen_cases h
    · exact .inr (.inl ⟨dt, hdt, rfl⟩)
    · exact .inl rfl
  | tickRaise =>
    cases h
    exact .inl (tickRaise_eq_withInputs s)
  | btnPress | btnRelease | auxPress | auxRelease | bcd4 =>
    simp only [exec, execBtnPress, execBtnRelease, execAuxPress, execAuxRelease, execBcd4] at h
    split at h <;> cases h
    exact .inl rfl
  | _ =>
    cases h
    exact .inl rfl

end Sys2Proof.Machine
end

section
/-! SUPPORT. Who writes HALT, the requests and TICK_MASK (R35, R37, R49), and no operation faults. -/
namespace Sys2Proof.Machine

/-- HALT, SHOW_REQ, LED_REQ and TICK_MASK. -/
def State.wakeFlags (s : State) : Bool × Bool × Bool × Bool := (s.halt, s.showReq, s.ledReq, s.tickMask)

/-- The operations that write one of these flags. -/
def flagWriters : List Instr :=
  [.slpEval, .exitOff, .setLock, .setUnlock, .ledExit, .irqTick, .irqBtn, .irqAux, .reset]

/-- A MAIN step that is no writer of the flags leaves them unchanged. -/
theorem main_wakeFlags {i : Instr} {p : Phase} {s t : State} (hp : mainPhase i = some p) (hi : i ∉ flagWriters)
    (h : exec i s = .next t) : t.wakeFlags = s.wakeFlags := by
  cases i with
  | slpEval | exitOff | setLock | setUnlock | ledExit => exact absurd (by decide) hi
  | shwHead | shwPoll | shwExpire | setHead | setBlink | setPoll | ledLoop | ddOff | bootHead | bootFrame =>
    exact mainStep_frame State.wakeFlags h (by split_ifs <;> rfl)
  | shwDb0 | shwDb1 | shwDb2 | shwBegin | shwDark | shwDarkw | setBegin | setBdark | setBdarkw | setMut | setAcc
  | ledDb0 | ledDb1 | ledDb2 | ledBegin | rnSnap | rgLoad | ddOn | ddHold | bootDark | bootDarkw =>
    exact mainStep_frame State.wakeFlags h rfl
  | _ => cases hp

/-- Every operation but the nine writers leaves the flags unchanged. -/
theorem exec_wakeFlags {i : Instr} {s t : State} (hi : i ∉ flagWriters) (h : exec i s = .next t) : t.wakeFlags = s.wakeFlags := by
  rcases exec_cases h with heq | ⟨dt, -, rfl⟩ | ⟨p, hp⟩ | rfl | rfl | rfl | rfl
  · rw [heq]; rfl
  · rw [advanceBy_eq_withInputs]; rfl
  · exact main_wakeFlags hp hi h
  all_goals exact absurd (by decide) hi

/-- SLP_EVAL writes HALT alone of the flags, and only to halt (R281, R284). -/
theorem execSlpEval_wakeFlags {s t : State} (h : execSlpEval s = .next t) :
    (s.halt = true → t.halt = true) ∧ t.showReq = s.showReq ∧ t.ledReq = s.ledReq ∧ t.tickMask = s.tickMask := by
  rcases mainStep_cases h with ⟨hh, -, -, rfl⟩ | ⟨-, rfl⟩
  · simp only [hh, Bool.false_eq_true, false_implies, true_and]
    split_ifs <;> exact ⟨rfl, rfl, rfl⟩
  · exact ⟨id, rfl, rfl, rfl⟩

/-- RESET's next state is the reset state over the straps (R350). -/
theorem execReset_cases {s t : State} (h : execReset s = .next t) : s.straps.wf = true ∧ t = s.resetNow := by
  unfold execReset at h
  split at h <;> cases h
  exact ⟨‹_›, rfl⟩

/-- Settles O53: each writer's effect names the flags it writes, and every other operation leaves them unchanged. -/
theorem wakeFlagOwnership : Obligations.WakeFlagOwnership := by
  intro i s t h
  by_cases hi : i ∈ flagWriters
  · simp only [flagWriters, List.mem_cons, List.not_mem_nil, or_false] at hi
    cases i with
    | slpEval =>
      obtain ⟨hhalt, hshow, hled, hmask⟩ := execSlpEval_wakeFlags h
      simp_all
    | exitOff | setLock | setUnlock | ledExit =>
      obtain ⟨-, -, -, rfl⟩ | ⟨-, rfl⟩ := mainStep_cases h
      all_goals simp
    | irqTick | irqBtn | irqAux =>
      obtain ⟨-, rfl⟩ | ⟨-, rfl⟩ := handlerStep_cases h
      all_goals simp
    | reset =>
      obtain ⟨-, rfl⟩ := execReset_cases h
      simp [State.resetNow, State.resetFrom]
    | _ => simp at hi
  · have hsame := exec_wakeFlags hi h
    simp only [State.wakeFlags, Prod.mk.injEq] at hsame
    obtain ⟨hhalt, hshow, hled, hmask⟩ := hsame
    simp_all

/-- No operation faults: the hardware's one fault is a sticky bit (R300, R302). -/
theorem exec_ne_fault (i : Instr) (s : State) (f : Fault) : exec i s ≠ .fault f := by
  intro h
  cases i with
  | slpEval | shwDb0 | shwDb1 | shwDb2 | shwBegin | shwHead | shwDark | shwDarkw | shwPoll | shwExpire | exitOff
  | setBegin | setHead | setBlink | setBdark | setBdarkw | setPoll | setLock | setMut | setUnlock | setAcc
  | ledDb0 | ledDb1 | ledDb2 | ledBegin | ledLoop | ledExit | rnSnap | rgLoad | ddOn | ddHold | ddOff
  | bootHead | bootFrame | bootDark | bootDarkw | irqTick | irqBtn | irqAux | advance dt =>
    cases (takeWhen_eq_next _ _ _).symm.trans h
  | btnPress | btnRelease | auxPress | auxRelease | reset | bcd4 =>
    simp only [exec, execBtnPress, execBtnRelease, execAuxPress, execAuxRelease, execReset, execBcd4] at h
    split at h <;> cases h
  | _ => cases h

/-- While TCNT is below the period the nominal schedule has a step: an input change that is due, or the inner choice, where time at
least can pass (R51, R321). -/
theorem nominal_ne_none {s : State} (ht : s.tcnt.toNat < s.cfg.periodUs) : s.nominal ≠ none := by
  by_cases hq : ∀ e ∈ s.inputs.head?, s.now < e.1
  · have hdt : s.nominalDt ≠ 0 := Nat.one_le_iff_ne_zero.1 (waits_pos hq ht _ (nominalDt_mem_waits s))
    rw [nominal_of_not_due hq, Ne, Option.map_eq_none_iff]
    cases hirq : s.nominalIrq with
    | some i => simp [nominalInner_of_irq hirq]
    | none => cases hm : s.nominalMain <;> simp [State.nominalInner, hirq, hm, hdt]
  · cases hi : s.inputs with
    | nil => simp [hi] at hq
    | cons e rest =>
      have hd : e.1 ≤ s.now := by simpa [hi] using hq
      simp [nominal_of_due hi hd]

/-- Settles O59: operations never fault, words that do not decode are refused, and the nominal schedule has a step. -/
theorem noStepFaults : Obligations.NoStepFaults := by
  intro s f ht h
  by_cases hs : s.sched = []
  · obtain ⟨⟨i, u⟩, hn⟩ := Option.ne_none_iff_exists'.1 (nominal_ne_none ht)
    rw [step_of_nominal hs hn] at h
    exact exec_ne_fault i u f h
  · cases hd : decode s.sched with
    | ok p =>
      rw [step_of_decode_ok hd] at h
      exact exec_ne_fault _ _ f h
    | error e =>
      rw [step_of_decode_error hs hd] at h
      cases h

end Sys2Proof.Machine
end

section
/-! SUPPORT. The configuration, TimeOfDay and the timers under every operation (R23, R47, R50, R51). -/
namespace Sys2Proof.Machine

/-- What the statements need of a legal configuration (R41, R44, R46, R47). -/
theorem wf_bounds {c : Cfg} (h : c.wf = true) :
    timeOfDayOk c.mode12 c.defaultTime = true ∧ c.tickPeriodS ≠ 0 ∧ c.setCycleMs ≠ 0 ∧ c.bootScript.length ≤ 255 := by
  simp only [Cfg.wf, Bool.and_eq_true, bne_iff_ne, decide_eq_true_eq] at h
  obtain ⟨⟨⟨⟨⟨⟨⟨htime, hperiod⟩, -⟩, hcycle⟩, -⟩, -⟩, -⟩, hscript⟩ := h
  exact ⟨htime, hperiod, hcycle, hscript⟩

/-- The tick period of a legal configuration is positive (R41). -/
theorem periodUs_pos {c : Cfg} (h : c.wf = true) : 0 < c.periodUs := by
  obtain ⟨-, hperiod, -, -⟩ := wf_bounds h
  have : 0 < c.tickPeriodS.toNat := Nat.pos_of_ne_zero fun h0 => hperiod (BitVec.eq_of_toNat_eq h0)
  simp only [Cfg.periodUs]
  omega

/-- Every tick period fits TCNT (R41, R51). -/
theorem periodUs_lt (c : Cfg) : c.periodUs < 2 ^ 28 := by
  have := c.tickPeriodS.isLt
  simp only [Cfg.periodUs]
  omega

/-- The TimeOfDay invariant as a proposition (R23). -/
theorem timeOfDayOk_iff (mode12 : Bool) (t : Time) :
    timeOfDayOk mode12 t = true ↔ t.s < 60 ∧ t.m < 60 ∧ if mode12 = true then 1 ≤ t.h ∧ t.h ≤ 12 else t.h ≤ 23 := by
  cases mode12 <;> simp [timeOfDayOk, and_assoc]

/-- HWRAP answers an hour of the mode (R171). -/
theorem hwrap_range (h : Nat) (mode12 : Bool) :
    if mode12 = true then 1 ≤ hwrap h mode12 ∧ hwrap h mode12 ≤ 12 else hwrap h mode12 ≤ 23 := by
  cases mode12 <;> simp only [hwrap, if_true, Bool.false_eq_true, if_false] <;> omega

/-- NORMALIZE answers a time of day (R172). -/
theorem timeOfDayOk_normalize (t : Time) (mode12 : Bool) : timeOfDayOk mode12 (normalize t mode12) = true :=
  (timeOfDayOk_iff _ _).2 ⟨Nat.mod_lt _ (by decide), Nat.mod_lt _ (by decide), hwrap_range _ _⟩

/-- TICK_FN answers a time of day (R175). -/
theorem timeOfDayOk_tickFn (c : Cfg) (t : Time) : timeOfDayOk c.mode12 (tickFn c t) = true := timeOfDayOk_normalize _ _

/-- Writing a time of day keeps TimeOfDay normalised: its fields fit the registers (R23, R76). -/
theorem timeOk_setTime {s : State} {t : Time} (h : timeOfDayOk s.cfg.mode12 t = true) : TimeOk (s.setTime t) := by
  obtain ⟨hsec, hmin, hhr⟩ := (timeOfDayOk_iff _ _).1 h
  have hfit : t.h < 32 := by split_ifs at hhr <;> omega
  rw [TimeOk, setTime_time (by omega) (by omega) hfit]
  exact h

/-- The configuration is legal and TimeOfDay normalised (R23, R47). -/
def ClockOk (s : State) : Prop := ConfigOk s ∧ TimeOk s

/-- RESET loads the default time of a legal configuration (R182). -/
theorem clockOk_resetFrom {c : Cfg} (hc : c.wf = true) (btnN aux : Bool) : ClockOk (State.resetFrom c btnN aux) :=
  ⟨⟨hc, hc⟩, (wf_bounds hc).1⟩

/-- Writing a time of day keeps ClockOk. -/
theorem clockOk_setTime {s : State} {t : Time} (hs : ClockOk s) (h : timeOfDayOk s.cfg.mode12 t = true) : ClockOk (s.setTime t) :=
  ⟨hs.1, timeOk_setTime h⟩

/-- MAIN's steps keep ClockOk: SET_MUT alone writes TimeOfDay, with a time NORMALIZE answers (R176, R177, R232). -/
theorem main_clockOk {i : Instr} {p : Phase} {s t : State} (hp : mainPhase i = some p) (hs : ClockOk s)
    (h : exec i s = .next t) : ClockOk t := by
  cases i with
  | setMut =>
    have hnorm : timeOfDayOk s.cfg.mode12
        (if s.hold.toNat < s.cfg.accelCycles.toNat then incFn s.cfg s.time else jumpFn s.cfg s.time) = true := by
      split_ifs <;> exact timeOfDayOk_normalize _ _
    have hset := clockOk_setTime hs hnorm
    exact mainStep_keeps h hs fun _ _ => hset
  | shwHead | shwPoll | shwExpire | setHead | setBlink | setPoll | ledLoop | ddOff | bootHead | bootFrame | slpEval =>
    exact mainStep_keeps h hs fun _ _ => by split_ifs <;> exact hs
  | shwDb0 | shwDb1 | shwDb2 | shwBegin | shwDark | shwDarkw | exitOff | setBegin | setBdark | setBdarkw | setLock
  | setUnlock | setAcc | ledDb0 | ledDb1 | ledDb2 | ledBegin | ledExit | rnSnap | rgLoad | ddOn | ddHold
  | bootDark | bootDarkw => exact mainStep_keeps h hs fun _ _ => hs
  | _ => cases hp

/-- Every operation keeps ClockOk: IRQ_TICK's time comes from NORMALIZE, RESET's from the straps. -/
theorem exec_clockOk {i : Instr} {s t : State} (hs : ClockOk s) (h : exec i s = .next t) : ClockOk t := by
  rcases exec_cases h with heq | ⟨dt, -, rfl⟩ | ⟨p, hp⟩ | rfl | rfl | rfl | rfl
  · rw [heq]; exact hs
  · rw [advanceBy_eq_withInputs]; exact hs
  · exact main_clockOk hp hs h
  · have htick := clockOk_setTime hs (timeOfDayOk_tickFn s.cfg s.time)
    exact handlerStep_keeps h hs htick
  · exact handlerStep_keeps h hs hs
  · exact handlerStep_keeps h hs hs
  · obtain ⟨hwf, rfl⟩ := execReset_cases h
    exact clockOk_resetFrom hwf s.btnN s.aux

/-- Settles O55: a step is one operation on a state with the same registers, and every operation keeps ClockOk. -/
theorem stepsKeepTimeNormalised : Obligations.StepsKeepTimeNormalised := by
  intro s t hc ht h
  obtain ⟨i, sc, ins, hi⟩ := step_next h
  exact exec_clockOk (s := { s with sched := sc, inputs := ins }) ⟨hc, ht⟩ hi

/-- The longest settle delay, 65535 ms, is the longest wait (R27, R31). -/
theorem timersOk_startWait {s : State} (hs : TimersOk s) {us : Nat} (h : us ≤ 65535 * 1000) : TimersOk (s.startWait us) := by
  obtain ⟨hms, htcnt, -⟩ := hs
  refine ⟨hms, htcnt, ?_⟩
  simp only [State.startWait_wt, BitVec.toNat_ofNat]
  omega

/-- MAIN's steps keep the timers: they start waits of at most 65535 ms and leave NOW, MS and TCNT alone (R27, R31). -/
theorem main_timersOk {i : Instr} {p : Phase} {s t : State} (hp : mainPhase i = some p) (hs : TimersOk s)
    (h : exec i s = .next t) : TimersOk t := by
  have hdark := s.cfg.darkUs.isLt
  have hdwell := s.cfg.dwellUs.isLt
  have hsettle := s.cfg.settleMs.isLt
  have haux := s.cfg.auxSettleMs.isLt
  cases i with
  | shwDb0 | shwDark | setBdark | ledDb0 | bootDark =>
    exact mainStep_keeps h hs fun _ _ => timersOk_startWait hs (by omega)
  | ddOn => exact mainStep_keeps h hs fun _ _ => timersOk_startWait (s := s.lightPos) hs (by omega)
  | shwHead | shwPoll | shwExpire | setHead | setBlink | setPoll | ledLoop | ddOff | bootHead | bootFrame | slpEval =>
    exact mainStep_keeps h hs fun _ _ => by split_ifs <;> exact hs
  | shwDb1 | shwDb2 | shwBegin | shwDarkw | exitOff | setBegin | setBdarkw | setLock | setMut
  | setUnlock | setAcc | ledDb1 | ledDb2 | ledBegin | ledExit | rnSnap | rgLoad | ddHold
  | bootDarkw => exact mainStep_keeps h hs fun _ _ => hs
  | _ => cases hp

/-- TICK_RAISE keeps the timers (R309). -/
theorem timersOk_tickRaise {s : State} (hs : TimersOk s) : TimersOk s.tickRaise := by
  rcases tickRaise_cases s with ⟨-, h⟩ | ⟨-, h⟩ <;> rw [h] <;> exact hs

/-- ADVANCE keeps the timers: MS follows NOW, TCNT restarts at the period, WT only falls (R321). -/
theorem timersOk_advanceBy {s : State} {dt : Nat} (hs : TimersOk s) (hdt : s.advanceEnabled dt = true) :
    TimersOk (s.advanceBy dt) := by
  obtain ⟨-, htcnt, hwt⟩ := hs
  obtain ⟨-, hle⟩ := (advanceEnabled_iff s dt).1 hdt
  have hlt := periodUs_lt s.cfg
  have hwt' : (s.passTime dt).wt.toNat ≤ 65535 * 1000 := by
    simp only [State.passTime_wt, BitVec.toNat_ofNat]
    omega
  rcases advanceBy_cases s dt with ⟨-, h⟩ | ⟨hne, h⟩ <;> rw [h]
  · exact timersOk_tickRaise ⟨rfl, Nat.lt_of_le_of_lt (Nat.zero_le _) htcnt, hwt'⟩
  · refine ⟨rfl, ?_, hwt'⟩
    simp only [State.passTime_cfg, BitVec.toNat_ofNat]
    omega

/-- The timers at reset (R351). -/
theorem timersOk_resetFrom {c : Cfg} (hc : c.wf = true) (btnN aux : Bool) : TimersOk (State.resetFrom c btnN aux) :=
  ⟨by simp [State.resetFrom], periodUs_pos hc, Nat.zero_le _⟩

/-- Every operation keeps the timers. -/
theorem exec_timersOk {i : Instr} {s t : State} (hs : TimersOk s) (h : exec i s = .next t) : TimersOk t := by
  rcases exec_cases h with heq | ⟨dt, hdt, rfl⟩ | ⟨p, hp⟩ | rfl | rfl | rfl | rfl
  · rw [heq]; exact hs
  · exact timersOk_advanceBy hs hdt
  · exact main_timersOk hp hs h
  · exact handlerStep_keeps h hs hs
  · exact handlerStep_keeps h hs hs
  · exact handlerStep_keeps h hs hs
  · obtain ⟨hwf, rfl⟩ := execReset_cases h
    exact timersOk_resetFrom hwf s.btnN s.aux


end Sys2Proof.Machine
end

section
/-! SUPPORT. PHASE, RET and the display lines under every operation (R33, R140 to R152). -/
namespace Sys2Proof.Machine

/-- PHASE and RET go together, the lines follow the rest rule, and POS is 1..4 (R25, R33, R149). -/
def DisplayOk (s : State) : Prop := PhaseOk s ∧ LinesOk s ∧ PosOk s

/-- What DisplayOk says of the registers while no position is lit: RET holds one of its values, the lines rest, POS is 1..4. -/
def RestOk (s : State) : Prop := (s.ret = 0 ∨ s.ret = 0x06 ∨ s.ret = 0x13 ∨ s.ret = 0x3A) ∧ AtRest s ∧ PosOk s

/-- The position a sweep starts with (R25). -/
theorem posOk_one {s : State} (h : s.pos = 1) : PosOk s := by simp [PosOk, h]

/-- The lit phases and the two that load the masks belong to the display sub-sequence (R140). -/
theorem phases_outside_sweep : ∀ p : Phase, inSweep p = false → isLit p = false ∧ p ≠ 0x30 ∧ p ≠ 0x31 := by decide

/-- RET's values are phases of MAIN outside the sub-sequence (R33). -/
theorem ret_outside_sweep {r : Phase} (h : r = 0 ∨ r = 0x06 ∨ r = 0x13 ∨ r = 0x3A) :
    (mainInstr r).isSome = true ∧ inSweep r = false := by
  rcases h with rfl | rfl | rfl | rfl <;> decide

/-- In a phase that lights no position the lines rest (R149). -/
theorem DisplayOk.rest {s : State} (hs : DisplayOk s) (hl : isLit s.phase = false) : RestOk s := by
  obtain ⟨⟨-, hret, -⟩, ⟨hrest, -⟩, hpos⟩ := hs
  exact ⟨hret, hrest hl, hpos⟩

/-- RET holds one of its values (R33). -/
theorem DisplayOk.ret_ok {s : State} (hs : DisplayOk s) : s.ret = 0 ∨ s.ret = 0x06 ∨ s.ret = 0x13 ∨ s.ret = 0x3A := by
  obtain ⟨⟨-, hret, -⟩, -⟩ := hs
  exact hret

/-- Inside the sub-sequence RET holds the phase to return to (R33). -/
theorem DisplayOk.ret_ne {s : State} (hs : DisplayOk s) (hin : inSweep s.phase = true) : s.ret ≠ 0 := by
  obtain ⟨⟨-, -, hne, -⟩, -⟩ := hs
  exact hne hin

/-- A defined phase outside the sub-sequence with the lines at rest (R149). -/
theorem displayOk_outside {t : State} (ht : RestOk t) (hcode : (mainInstr t.phase).isSome = true) (hsweep : inSweep t.phase = false) :
    DisplayOk t := by
  obtain ⟨hret, hrest, hpos⟩ := ht
  obtain ⟨hlit, h30, h31⟩ := phases_outside_sweep _ hsweep
  exact ⟨⟨hcode, hret, by simp [hsweep], fun h => absurd h h30, fun h => absurd h h31⟩, ⟨fun _ => hrest, by simp [hlit]⟩, hpos⟩

/-- The entry of RENDER_NUMBER, from ShowingTime or SettingTime (R141). -/
theorem displayOk_number {t : State} (ht : RestOk t) (hq : t.phase = 0x30) (hr : t.ret = 0x06 ∨ t.ret = 0x13) : DisplayOk t := by
  obtain ⟨hret, hrest, hpos⟩ := ht
  refine ⟨⟨by rw [hq]; decide, hret, ?_, ?_, by simp [hq]⟩, ⟨fun _ => hrest, by simp [hq, isLit]⟩, hpos⟩ <;>
    rcases hr with h | h <;> simp [h]

/-- The entry of RENDER_GLYPHS, from boot (R150). -/
theorem displayOk_glyphs {t : State} (ht : RestOk t) (hq : t.phase = 0x31) (hr : t.ret = 0x3A) : DisplayOk t := by
  obtain ⟨hret, hrest, hpos⟩ := ht
  exact ⟨⟨by rw [hq]; decide, hret, by simp [hr], by simp [hq], fun _ => hr⟩, ⟨fun _ => hrest, by simp [hq, isLit]⟩, hpos⟩

/-- DD_ON's phase, with a phase to return to (R143). -/
theorem displayOk_on {t : State} (ht : RestOk t) (hq : t.phase = 0x32) (hr : t.ret ≠ 0) : DisplayOk t := by
  obtain ⟨hret, hrest, hpos⟩ := ht
  exact ⟨⟨by rw [hq]; decide, hret, fun _ => hr, by simp [hq], by simp [hq]⟩, ⟨fun _ => hrest, by simp [hq, isLit]⟩, hpos⟩

/-- DD_ON lights position POS (R143). -/
theorem displayOk_lightPos {s : State} (hs : DisplayOk s) (hp : s.phase = 0x32) (us : Nat) :
    DisplayOk ((s.lightPos.startWait us).goto phDdHold) := by
  have hne := hs.ret_ne (by rw [hp]; rfl)
  obtain ⟨hret, -, hpos⟩ := hs.rest (by rw [hp]; rfl)
  exact ⟨⟨rfl, hret, fun _ => hne, by simp, by simp⟩,
    ⟨by simp [isLit], fun _ => ⟨driveSeg_eq _, rfl, driveColon_eq _⟩⟩, hpos⟩

/-- DD_HOLD keeps the lines until DD_OFF (R144). -/
theorem displayOk_hold {s : State} (hs : DisplayOk s) (hp : s.phase = 0x33) : DisplayOk (s.goto phDdOff) := by
  have hne := hs.ret_ne (by rw [hp]; rfl)
  obtain ⟨⟨-, hret, -⟩, ⟨-, hlit⟩, hpos⟩ := hs
  exact ⟨⟨rfl, hret, fun _ => hne, by simp, by simp⟩, ⟨by simp [isLit], fun _ => hlit (by rw [hp]; rfl)⟩, hpos⟩

/-- DD_OFF de-energises the lines, and goes to the next position or back to RET (R145). -/
theorem displayOk_off {s : State} (hs : DisplayOk s) (hp : s.phase = 0x34) :
    DisplayOk (if s.pos.toNat < 4 then { s.restLines with pos := s.pos + 1 }.goto phDdOn else s.restLines.goto s.ret) := by
  have hne := hs.ret_ne (by rw [hp]; rfl)
  obtain ⟨⟨-, hret, -⟩, -, hpos⟩ := hs
  have hrest : AtRest s.restLines := ⟨rfl, rfl, rfl⟩
  split_ifs with hlt
  · have hnext : 1 ≤ (s.pos + 1).toNat ∧ (s.pos + 1).toNat ≤ 4 := by bv_omega
    exact displayOk_on (t := { s.restLines with pos := s.pos + 1 }.goto phDdOn) ⟨hret, hrest, hnext⟩ rfl hne
  · obtain ⟨hcode, hsweep⟩ := ret_outside_sweep hret
    exact displayOk_outside (t := s.restLines.goto s.ret) ⟨hret, hrest, hpos⟩ hcode hsweep

/-- The display at reset (R351). -/
theorem displayOk_resetFrom (c : Cfg) (btnN aux : Bool) : DisplayOk (State.resetFrom c btnN aux) :=
  displayOk_outside ⟨.inl rfl, ⟨rfl, rfl, rfl⟩, posOk_one rfl⟩ rfl rfl

/-- MAIN's steps keep DisplayOk: outside the sub-sequence they leave the lines at rest, and they enter it with RET written. -/
theorem main_displayOk {i : Instr} {p : Phase} {s t : State} (hp : mainPhase i = some p) (hs : DisplayOk s)
    (h : exec i s = .next t) : DisplayOk t := by
  cases i with
  | shwDb0 | shwDb1 | shwDb2 | shwBegin | shwDark | shwDarkw | exitOff | setBegin | setBdark | setBdarkw | setLock | setMut
  | setUnlock | setAcc | ledDb0 | ledDb1 | ledDb2 | ledBegin | ledExit | bootDark | bootDarkw =>
    exact mainStep_keeps h hs fun _ hph => displayOk_outside (hs.rest (by rw [hph]; rfl)) rfl rfl
  | shwPoll | shwExpire | setHead | setPoll | bootHead =>
    refine mainStep_keeps h hs fun _ hph => ?_
    have hrest := hs.rest (by rw [hph]; rfl)
    split_ifs <;> exact displayOk_outside hrest rfl rfl
  | slpEval =>
    refine mainStep_keeps h hs fun _ hph => ?_
    have hrest := hs.rest (by rw [hph]; rfl)
    split_ifs
    · exact displayOk_outside hrest rfl rfl
    · exact displayOk_outside hrest rfl rfl
    · exact hs
  | ledLoop =>
    refine mainStep_keeps h hs fun _ hph => ?_
    have hrest := hs.rest (by rw [hph]; rfl)
    split_ifs
    · exact displayOk_outside hrest rfl rfl
    · exact hs
    · exact hs
  | shwHead =>
    refine mainStep_keeps h hs fun _ hph => ?_
    have hrest := hs.rest (by rw [hph]; rfl)
    split_ifs
    · exact displayOk_number ⟨.inr (.inl rfl), hrest.2⟩ rfl (.inl rfl)
    · exact displayOk_outside hrest rfl rfl
  | setBlink =>
    refine mainStep_keeps h hs fun _ hph => ?_
    have hrest := hs.rest (by rw [hph]; rfl)
    split_ifs
    · exact displayOk_number ⟨.inr (.inr (.inl rfl)), hrest.2⟩ rfl (.inr rfl)
    · exact displayOk_outside (t := { s with colon := false, rep := 0 }) hrest (by rw [hph]; rfl) (by rw [hph]; rfl)
    · exact displayOk_outside hrest rfl rfl
  | bootFrame =>
    refine mainStep_keeps h hs fun _ hph => ?_
    have hrest := hs.rest (by rw [hph]; rfl)
    split_ifs
    · exact displayOk_glyphs ⟨.inr (.inr (.inr rfl)), hrest.2⟩ rfl rfl
    · exact displayOk_outside hrest rfl rfl
  | rnSnap | rgLoad =>
    refine mainStep_keeps h hs fun _ hph => ?_
    have hne := hs.ret_ne (by rw [hph]; rfl)
    obtain ⟨hret, hlines, -⟩ := hs.rest (by rw [hph]; rfl)
    exact displayOk_on ⟨hret, hlines, posOk_one rfl⟩ rfl hne
  | ddOn => exact mainStep_keeps h hs fun _ hph => displayOk_lightPos hs hph _
  | ddHold => exact mainStep_keeps h hs fun _ hph => displayOk_hold hs hph
  | ddOff => exact mainStep_keeps h hs fun _ hph => displayOk_off hs hph
  | _ => cases hp

/-- Every operation keeps DisplayOk: MAIN's steps and RESET alone write its registers (R152). -/
theorem exec_displayOk {i : Instr} {s t : State} (hs : DisplayOk s) (h : exec i s = .next t) : DisplayOk t := by
  rcases exec_cases h with heq | ⟨dt, -, rfl⟩ | ⟨p, hp⟩ | rfl | rfl | rfl | rfl
  · rw [heq]; exact hs
  · rw [advanceBy_eq_withInputs]; exact hs
  · exact main_displayOk hp hs h
  · exact handlerStep_keeps h hs hs
  · exact handlerStep_keeps h hs hs
  · exact handlerStep_keeps h hs hs
  · obtain ⟨-, rfl⟩ := execReset_cases h
    exact displayOk_resetFrom s.straps s.btnN s.aux

end Sys2Proof.Machine
end

section
/-! SUPPORT. The phase that owns MAIN, and with it the mode, the requests, HALT, TICK_MASK and the LED under every operation (R33, R37,
R201, R241, R282). -/
namespace Sys2Proof.Machine

/-- The phases inside the exclusion bracket (R37, R81). -/
def maskPhase (o : Phase) : Bool := o == 0x17 || o == 0x18

/-- The phases of the display window, in which the LED is on (R210). -/
def ledPhase (o : Phase) : Bool := o == 0x05 || o == 0x06 || o == 0x07 || o == 0x08 || o == 0x09 || o == 0x0A

/-- The phases SettingTime's MODE can stand at: its own and its exit (R201). -/
def settingOrExit (o : Phase) : Bool := ownsSetting o || o == 0x0A

/-- ModeOk, RequestOk, HaltOk, MaskOk and LedOk with the owner as an argument. -/
def ModesAt (o : Phase) (s : State) : Prop :=
  ((s.mode = 0 ↔ ownsSleeping o = true) ∧ (s.mode = 2 → settingOrExit o = true) ∧ (ownsSetting o = true → s.mode = 2) ∧
    (ownsShowing o = true → s.mode = 1) ∧ (s.mode = 3 ↔ ownsLed o = true)) ∧
  ((s.cfg.alwaysOn = true → s.mode ≠ 3) ∧ RequestOk s) ∧
  (s.halt = true → o = 0x00 ∧ s.cfg.alwaysOn = false) ∧
  s.tickMask = maskPhase o ∧
  (s.mode = 2 ∨ ledPhase o = true → s.led = true)

/-- The clauses of ModesAt at the phase that owns MAIN. -/
def ModesOk (s : State) : Prop := ModesAt s.owner s

/-- Outside the display sub-sequence MAIN's own phase is the owner (R201). -/
theorem owner_of_outside {s : State} {p : Phase} (hp : s.phase = p) (hout : inSweep p = false) : s.owner = p := by
  simp [State.owner, hp, hout]

/-- Inside the display sub-sequence the phase it returns to is the owner (R33, R201). -/
theorem owner_of_sweep {s : State} {p : Phase} (hp : s.phase = p) (hin : inSweep p = true) : s.owner = s.ret := by
  simp [State.owner, hp, hin]

/-- A phase outside the sub-sequence that is nobody's RET owns MAIN exactly where MAIN stands at it (R33). -/
theorem owner_eq_iff {s : State} {q : Phase} (hs : PhaseOk s) (hq : inSweep q = false)
    (hr : q = 0 ∨ q ≠ 0x06 ∧ q ≠ 0x13 ∧ q ≠ 0x3A) : s.owner = q ↔ s.phase = q := by
  obtain ⟨-, hret, hne, -⟩ := hs
  cases hin : inSweep s.phase with
  | false => rw [owner_of_outside rfl hin]
  | true =>
    have hne := hne hin
    rw [owner_of_sweep rfl hin]
    constructor
    · rintro rfl
      rcases hr with h0 | ⟨h6, h13, h3A⟩
      · exact absurd h0 hne
      · simp_all
    · rintro rfl
      simp [hin] at hq

/-- MAIN is halted at SLP_EVAL only (R282). -/
theorem ModesAt.running {s : State} {o : Phase} (hs : ModesAt o s) (ho : o ≠ 0x00) : s.halt = false := by
  obtain ⟨-, -, hhalt, -⟩ := hs
  exact Bool.eq_false_iff.2 fun h => ho (hhalt h).1

/-- ModesAt in Sleeping at SLP_EVAL. -/
theorem modesAt_slpEval_iff (s : State) :
    ModesAt 0x00 s ↔ s.mode = 0 ∧ (s.halt = true → s.cfg.alwaysOn = false) ∧ s.tickMask = false := by
  constructor
  · rintro ⟨⟨hsleep, -⟩, -, hhalt, hmask, -⟩
    exact ⟨hsleep.2 rfl, fun h => (hhalt h).2, hmask⟩
  · rintro ⟨hm, hhalt, hmask⟩
    have hphase : maskPhase 0x00 = false ∧ ledPhase 0x00 = false ∧ ownsSetting 0x00 = false ∧ ownsShowing 0x00 = false ∧
        ownsSleeping 0x00 = true ∧ ownsLed 0x00 = false := by decide
    simp_all [ModesAt, RequestOk]

/-- ModesAt in ShowingTime before its exit. -/
theorem modesAt_showing_iff {o : Phase} (ho : ownsShowing o = true) (s : State) :
    ModesAt o s ↔ s.mode = 1 ∧ (s.showReq = true ∨ s.cfg.alwaysOn = true) ∧ s.halt = false ∧ s.tickMask = false ∧
      (ledPhase o = true → s.led = true) := by
  have hclass : ∀ o : Phase, ownsShowing o = true → o ≠ 0x00 ∧ maskPhase o = false ∧ ownsSetting o = false ∧
      ownsSleeping o = false ∧ ownsLed o = false := by decide
  obtain ⟨hne, hbracket, hset, hsleep, hled⟩ := hclass o ho
  constructor
  · intro hs
    have hh := hs.running hne
    obtain ⟨⟨-, -, -, hshow, -⟩, ⟨-, hreq, -⟩, -, hmask, hled⟩ := hs
    exact ⟨hshow ho, hreq (.inl (hshow ho)), hh, hmask.trans hbracket, fun h => hled (.inr h)⟩
  · rintro ⟨hm, hreq, hh, hmask, hled⟩
    simp_all [ModesAt, RequestOk]

/-- ModesAt in SettingTime before its exit. -/
theorem modesAt_setting_iff {o : Phase} (ho : ownsSetting o = true) (s : State) :
    ModesAt o s ↔ s.mode = 2 ∧ (s.showReq = true ∨ s.cfg.alwaysOn = true) ∧ s.halt = false ∧ s.tickMask = maskPhase o ∧
      s.led = true := by
  have hclass : ∀ o : Phase, ownsSetting o = true → o ≠ 0x00 ∧ settingOrExit o = true ∧ ownsShowing o = false ∧
      ownsSleeping o = false ∧ ownsLed o = false := by decide
  obtain ⟨hne, hexit, hshow, hsleep, hled⟩ := hclass o ho
  constructor
  · intro hs
    have hh := hs.running hne
    obtain ⟨⟨-, -, hset, -⟩, ⟨-, hreq, -⟩, -, hmask, hled⟩ := hs
    exact ⟨hset ho, hreq (.inr (hset ho)), hh, hmask, hled (.inl (hset ho))⟩
  · rintro ⟨hm, hreq, hh, hmask, hled⟩
    simp_all [ModesAt, RequestOk]

/-- ModesAt in LedToggle. -/
theorem modesAt_led_iff {o : Phase} (ho : ownsLed o = true) (s : State) :
    ModesAt o s ↔ s.mode = 3 ∧ s.ledReq = true ∧ s.cfg.alwaysOn = false ∧ s.halt = false ∧ s.tickMask = false := by
  have hclass : ∀ o : Phase, ownsLed o = true → o ≠ 0x00 ∧ maskPhase o = false ∧ ownsShowing o = false ∧
      ownsSetting o = false ∧ ownsSleeping o = false ∧ ledPhase o = false := by decide
  obtain ⟨hne, hbracket, hshow, hset, hsleep, hled⟩ := hclass o ho
  constructor
  · intro hs
    have hh := hs.running hne
    obtain ⟨⟨-, -, -, -, h3⟩, ⟨hon, -, hreq⟩, -, hmask, -⟩ := hs
    have hm := h3.2 ho
    exact ⟨hm, hreq hm, Bool.eq_false_iff.2 fun h => hon h hm, hh, hmask.trans hbracket⟩
  · rintro ⟨hm, hreq, hon, hh, hmask⟩
    simp_all [ModesAt, RequestOk]

/-- Going from o to o' asks nothing new of MODE, TICK_MASK and the LED. -/
def followsModes (o o' : Phase) : Bool :=
  ownsSleeping o' == ownsSleeping o && ownsLed o' == ownsLed o && (ownsSetting o || !ownsSetting o') &&
    (ownsShowing o || !ownsShowing o') && (settingOrExit o' || !settingOrExit o) && maskPhase o' == maskPhase o &&
    (ledPhase o || ownsSetting o || !ledPhase o')

/-- A running MAIN goes from o to o' and writes none of these registers. -/
theorem ModesAt.follow {s : State} {o o' : Phase} (hs : ModesAt o s) (hh : s.halt = false) (hf : followsModes o o' = true) :
    ModesAt o' s := by
  obtain ⟨⟨h0, h2, hset, hshow, h3⟩, hreq, -, hmask, hled⟩ := hs
  simp only [followsModes, Bool.and_eq_true, beq_iff_eq, Bool.or_eq_true, Bool.not_eq_true'] at hf
  obtain ⟨⟨⟨⟨⟨⟨f0, f3⟩, fset⟩, fshow⟩, f2⟩, fmask⟩, fled⟩ := hf
  refine ⟨⟨by rw [f0, h0], fun hm => f2.resolve_right (by simp [h2 hm]), fun ho => hset (fset.resolve_right (by simp [ho])),
    fun ho => hshow (fshow.resolve_right (by simp [ho])), by rw [f3, h3]⟩, hreq, by simp [hh], by rw [fmask, hmask], ?_⟩
  rintro (hm | ho)
  · exact hled (.inl hm)
  · rcases fled with (hwindow | hsetting) | hnot
    · exact hled (.inr hwindow)
    · exact hled (.inl (hset hsetting))
    · simp [ho] at hnot

/-- What ModesOk says where MAIN stands outside the sub-sequence. -/
theorem modesOk_iff {s : State} {p : Phase} (hp : s.phase = p) (hout : inSweep p = false) : ModesOk s ↔ ModesAt p s := by
  rw [ModesOk, owner_of_outside hp hout]

/-- A step that keeps the owner and these registers. -/
theorem modesOk_of_owner_eq {s t : State} (hs : ModesAt s.owner t) (ho : t.owner = s.owner) : ModesOk t := by
  rw [ModesOk, ho]
  exact hs

/-- MAIN's steps keep ModesOk: most follow their owner's mode, and each of the others writes what its new phase asks for. -/
theorem main_modesOk {i : Instr} {p : Phase} {s t : State} (hp : mainPhase i = some p) (hd : DisplayOk s) (hs : ModesOk s)
    (h : exec i s = .next t) : ModesOk t := by
  cases i with
  | shwDb0 | shwDb1 | shwDb2 | shwDark | shwDarkw | setBegin | setBdark | setBdarkw | setMut | setAcc
  | ledDb0 | ledDb1 | ledDb2 | bootDark | bootDarkw =>
    exact mainStep_keeps h hs fun hh hph => ModesAt.follow ((modesOk_iff hph rfl).1 hs) hh rfl
  | shwHead | shwPoll | setHead | setPoll | bootHead | bootFrame =>
    refine mainStep_keeps h hs fun hh hph => ?_
    have hat := (modesOk_iff hph rfl).1 hs
    split_ifs <;> exact ModesAt.follow hat hh rfl
  | setBlink =>
    refine mainStep_keeps h hs fun hh hph => ?_
    have hat := (modesOk_iff hph rfl).1 hs
    split_ifs
    · exact ModesAt.follow hat hh rfl
    · exact hs
    · exact ModesAt.follow hat hh rfl
  | rnSnap | rgLoad | ddOn | ddHold =>
    exact mainStep_keeps h hs fun _ hph => modesOk_of_owner_eq hs (owner_of_sweep hph rfl).symm
  | ddOff =>
    refine mainStep_keeps h hs fun _ hph => ?_
    have hown := owner_of_sweep hph rfl
    obtain ⟨-, hout⟩ := ret_outside_sweep hd.ret_ok
    split_ifs
    · exact modesOk_of_owner_eq hs hown.symm
    · exact modesOk_of_owner_eq hs ((owner_of_outside rfl hout).trans hown.symm)
  | slpEval =>
    refine mainStep_keeps h hs fun hh hph => ?_
    obtain ⟨hm, -, hmask⟩ := (modesAt_slpEval_iff s).1 ((modesOk_iff hph rfl).1 hs)
    split_ifs with hshow hled
    · exact (modesAt_showing_iff rfl _).2 ⟨rfl, by simpa [or_comm] using hshow, hh, hmask, nofun⟩
    · exact (modesAt_led_iff rfl _).2 ⟨rfl, hled, by simp_all, hh, hmask⟩
    · exact (modesOk_iff (s := { s with halt := true }) hph rfl).2 ((modesAt_slpEval_iff _).2 ⟨hm, fun _ => by simp_all, hmask⟩)
  | shwBegin =>
    refine mainStep_keeps h hs fun hh hph => ?_
    obtain ⟨hm, hreq, -, hmask, -⟩ := (modesAt_showing_iff rfl s).1 ((modesOk_iff hph rfl).1 hs)
    exact (modesAt_showing_iff rfl _).2 ⟨hm, hreq, hh, hmask, fun _ => rfl⟩
  | shwExpire =>
    refine mainStep_keeps h hs fun hh hph => ?_
    have hat := (modesOk_iff hph rfl).1 hs
    obtain ⟨hm, hreq, -, hmask, hled⟩ := (modesAt_showing_iff rfl s).1 hat
    split_ifs
    · exact (modesAt_setting_iff rfl _).2 ⟨rfl, hreq, hh, hmask, hled rfl⟩
    · exact ModesAt.follow hat hh rfl
  | exitOff | ledExit =>
    refine mainStep_keeps h hs fun hh hph => ?_
    obtain ⟨-, -, -, hmask, -⟩ := (modesOk_iff hph rfl).1 hs
    exact (modesAt_slpEval_iff _).2 ⟨rfl, fun hhalt => absurd (hh.symm.trans hhalt) (by decide), hmask⟩
  | setLock | setUnlock =>
    refine mainStep_keeps h hs fun hh hph => ?_
    obtain ⟨hm, hreq, -, -, hled⟩ := (modesAt_setting_iff rfl s).1 ((modesOk_iff hph rfl).1 hs)
    exact (modesAt_setting_iff rfl _).2 ⟨hm, hreq, hh, rfl, hled⟩
  | ledBegin =>
    refine mainStep_keeps h hs fun hh hph => ?_
    have hat := (modesAt_led_iff rfl s).1 ((modesOk_iff hph rfl).1 hs)
    exact (modesAt_led_iff rfl _).2 hat
  | ledLoop =>
    refine mainStep_keeps h hs fun hh hph => ?_
    have hat := (modesOk_iff hph rfl).1 hs
    have hled := (modesAt_led_iff rfl s).1 hat
    split_ifs
    · exact ModesAt.follow hat hh rfl
    · exact (modesOk_iff (s := { s with led := !s.led, auxp := true }) hph rfl).2 ((modesAt_led_iff rfl _).2 hled)
    · exact hs
  | _ => cases hp

/-- Waking MAIN keeps the clauses of ModesOk (R49). -/
theorem modesOk_wake {s : State} (hs : ModesOk s) : ModesOk { s with halt := false } := by
  obtain ⟨hmode, hreq, -, hmask, hled⟩ := hs
  exact ⟨hmode, hreq, nofun, hmask, hled⟩

/-- A new SHOW_REQ keeps the clauses of ModesOk (R311). -/
theorem modesOk_showReq {s : State} (hs : ModesOk s) : ModesOk { s with showReq := true } := by
  obtain ⟨hmode, ⟨hon, -, hledReq⟩, hhalt, hmask, hled⟩ := hs
  exact ⟨hmode, ⟨hon, fun _ => .inl rfl, hledReq⟩, hhalt, hmask, hled⟩

/-- A new LED_REQ keeps the clauses of ModesOk (R312). -/
theorem modesOk_ledReq {s : State} (hs : ModesOk s) : ModesOk { s with ledReq := true } := by
  obtain ⟨hmode, ⟨hon, hshow, -⟩, hhalt, hmask, hled⟩ := hs
  exact ⟨hmode, ⟨hon, hshow, fun _ => rfl⟩, hhalt, hmask, hled⟩

/-- The mode at reset (R351). -/
theorem modesOk_resetFrom (c : Cfg) (btnN aux : Bool) : ModesOk (State.resetFrom c btnN aux) := by
  rw [modesOk_iff (p := phBootHead) rfl rfl]
  simp [ModesAt, RequestOk, State.resetFrom, maskPhase, ledPhase, ownsSleeping, ownsShowing, ownsSetting, ownsLed]

/-- Every operation keeps ModesOk: handlers wake MAIN and set requests, and MAIN's steps and RESET write the rest. -/
theorem exec_modesOk {i : Instr} {s t : State} (hd : DisplayOk s) (hs : ModesOk s) (h : exec i s = .next t) : ModesOk t := by
  rcases exec_cases h with heq | ⟨dt, -, rfl⟩ | ⟨p, hp⟩ | rfl | rfl | rfl | rfl
  · rw [heq]; exact hs
  · rw [advanceBy_eq_withInputs]; exact hs
  · exact main_modesOk hp hd hs h
  · exact handlerStep_keeps h hs (modesOk_wake hs)
  · exact handlerStep_keeps h hs (modesOk_wake (modesOk_showReq (s := s) hs))
  · exact handlerStep_keeps h hs (modesOk_wake (modesOk_ledReq (s := s) hs))
  · obtain ⟨-, rfl⟩ := execReset_cases h
    exact modesOk_resetFrom s.straps s.btnN s.aux

end Sys2Proof.Machine
end

section
/-! SUPPORT. The counters under every operation (R28 to R31), and with them the whole invariant. -/
namespace Sys2Proof.Machine

/-- The phases of a blink half, from SET_BLINK's jump to the sweep to SET_BDARKW (R222 to R224). -/
def blinkPhase (o : Phase) : Bool := o == 0x13 || o == 0x14

/-- The phases of a control cycle, after SET_HEAD (R221). -/
def cyclePhase (o : Phase) : Bool := ownsSetting o && o != 0x10 && o != 0x11

/-- The phases in which a boot frame is shown (R356). -/
def framePhase (o : Phase) : Bool := o == 0x39 || o == 0x3A || o == 0x3B

/-- CountersOk with the owner as an argument. -/
def CountersAt (o : Phase) (s : State) : Prop :=
  s.hold.toNat ≤ s.cfg.accelCycles.toNat ∧
  s.rep.toNat ≤ s.cfg.blinkReps.toNat ∧
  (blinkPhase o = true → s.rep.toNat < s.cfg.blinkReps.toNat) ∧
  s.idle.toNat < s.cfg.setIdleMs.toNat + s.cfg.setCycleMs.toNat ∧
  (cyclePhase o = true → s.idle.toNat < s.cfg.setIdleMs.toNat) ∧
  s.bi.toNat ≤ s.cfg.bootScript.length ∧
  (framePhase o = true → s.bi.toNat < s.cfg.bootScript.length)

/-- CountersOk is CountersAt at the owner. -/
theorem countersOk_iff_owner (s : State) : CountersOk s ↔ CountersAt s.owner s := Iff.rfl

/-- What CountersOk says where MAIN stands outside the sub-sequence. -/
theorem countersOk_iff {s : State} {p : Phase} (hp : s.phase = p) (hout : inSweep p = false) : CountersOk s ↔ CountersAt p s := by
  rw [countersOk_iff_owner, owner_of_outside hp hout]

/-- A step that keeps the owner and the counters. -/
theorem countersOk_of_owner_eq {s t : State} (hs : CountersAt s.owner t) (ho : t.owner = s.owner) : CountersOk t := by
  rw [countersOk_iff_owner, ho]
  exact hs

/-- Going from o to o' asks nothing new of the counters. -/
def followsCounters (o o' : Phase) : Bool :=
  (blinkPhase o || !blinkPhase o') && (cyclePhase o || !cyclePhase o') && (framePhase o || !framePhase o')

/-- MAIN goes from o to o' and writes no counter. -/
theorem CountersAt.follow {s : State} {o o' : Phase} (hs : CountersAt o s) (hf : followsCounters o o' = true) :
    CountersAt o' s := by
  obtain ⟨hhold, hrep, hblink, hidle, hcycle, hbi, hframe⟩ := hs
  simp only [followsCounters, Bool.and_eq_true, Bool.or_eq_true, Bool.not_eq_true'] at hf
  obtain ⟨⟨fblink, fcycle⟩, fframe⟩ := hf
  exact ⟨hhold, hrep, fun ho => hblink (fblink.resolve_right (by simp [ho])), hidle,
    fun ho => hcycle (fcycle.resolve_right (by simp [ho])), hbi, fun ho => hframe (fframe.resolve_right (by simp [ho]))⟩

/-- MAIN's steps keep the counters in their bounds (R31). -/
theorem main_countersOk {i : Instr} {p : Phase} {s t : State} (hp : mainPhase i = some p) (hc : s.cfg.wf = true) (hd : DisplayOk s)
    (hs : CountersOk s) (h : exec i s = .next t) : CountersOk t := by
  obtain ⟨-, -, hcycle_ne, hscript⟩ := wf_bounds hc
  cases i with
  | shwDb0 | shwDb1 | shwDb2 | shwBegin | shwDark | shwDarkw | exitOff | setBdark | setLock | setMut | setUnlock
  | ledDb0 | ledDb1 | ledDb2 | ledBegin | ledExit | bootDark | bootDarkw =>
    exact mainStep_keeps h hs fun _ hph => CountersAt.follow ((countersOk_iff hph rfl).1 hs) rfl
  | slpEval =>
    refine mainStep_keeps h hs fun _ hph => ?_
    have hat := (countersOk_iff hph rfl).1 hs
    split_ifs
    · exact CountersAt.follow hat rfl
    · exact CountersAt.follow hat rfl
    · exact hs
  | ledLoop =>
    refine mainStep_keeps h hs fun _ hph => ?_
    have hat := (countersOk_iff hph rfl).1 hs
    split_ifs
    · exact CountersAt.follow hat rfl
    · exact hs
    · exact hs
  | shwHead | shwPoll | shwExpire =>
    refine mainStep_keeps h hs fun _ hph => ?_
    have hat := (countersOk_iff hph rfl).1 hs
    split_ifs <;> exact CountersAt.follow hat rfl
  | rnSnap | rgLoad | ddOn | ddHold =>
    exact mainStep_keeps h hs fun _ hph => countersOk_of_owner_eq hs (owner_of_sweep hph rfl).symm
  | ddOff =>
    refine mainStep_keeps h hs fun _ hph => ?_
    have hown := owner_of_sweep hph rfl
    obtain ⟨-, hout⟩ := ret_outside_sweep hd.ret_ok
    split_ifs
    · exact countersOk_of_owner_eq hs hown.symm
    · exact countersOk_of_owner_eq hs ((owner_of_outside rfl hout).trans hown.symm)
  | setBegin =>
    refine mainStep_keeps h hs fun _ hph => ?_
    obtain ⟨-, hrep, -, hidle, -, hbi, -⟩ := (countersOk_iff hph rfl).1 hs
    have hpos : 0 < s.cfg.setCycleMs.toNat := by bv_omega
    exact ⟨Nat.zero_le _, hrep, nofun, Nat.add_pos_right _ hpos, nofun, hbi, nofun⟩
  | setHead =>
    refine mainStep_keeps h hs fun _ hph => ?_
    have hat := (countersOk_iff hph rfl).1 hs
    have ⟨hhold, _, _, hidle, _, hbi, _⟩ := hat
    split_ifs with hlt
    · exact ⟨hhold, Nat.zero_le _, nofun, hidle, fun _ => hlt, hbi, nofun⟩
    · exact CountersAt.follow hat rfl
  | setBlink =>
    refine mainStep_keeps h hs fun _ hph => ?_
    have hat := (countersOk_iff hph rfl).1 hs
    have ⟨hhold, hrep, _, hidle, hcycle, hbi, _⟩ := hat
    split_ifs with hlt
    · exact ⟨hhold, hrep, fun _ => hlt, hidle, fun _ => hcycle rfl, hbi, nofun⟩
    · exact (countersOk_iff (s := { s with colon := false, rep := 0 }) hph rfl).2
        ⟨hhold, Nat.zero_le _, nofun, hidle, hcycle, hbi, nofun⟩
    · exact CountersAt.follow hat rfl
  | setBdarkw =>
    refine mainStep_keeps h hs fun _ hph => ?_
    obtain ⟨hhold, -, hblink, hidle, hcycle, hbi, -⟩ := (countersOk_iff hph rfl).1 hs
    have hlt := hblink rfl
    have hnext : (s.rep + 1).toNat ≤ s.cfg.blinkReps.toNat := by bv_omega
    exact ⟨hhold, hnext, nofun, hidle, fun _ => hcycle rfl, hbi, nofun⟩
  | setPoll =>
    refine mainStep_keeps h hs fun _ hph => ?_
    obtain ⟨-, hrep, -, hidle, hcycle, hbi, -⟩ := (countersOk_iff hph rfl).1 hs
    have hlt := hcycle rfl
    split_ifs
    · have hhold : (BitVec.ofNat 4 (Nat.min (s.hold.toNat + 1) s.cfg.accelCycles.toNat)).toNat ≤ s.cfg.accelCycles.toNat := by
        rw [BitVec.toNat_ofNat]
        exact (Nat.mod_le _ _).trans (Nat.min_le_right _ _)
      exact ⟨hhold, hrep, nofun, Nat.zero_lt_of_lt hidle, fun _ => Nat.zero_lt_of_lt hlt, hbi, nofun⟩
    · exact ⟨Nat.zero_le _, hrep, nofun, hidle, fun _ => hlt, hbi, nofun⟩
  | setAcc =>
    refine mainStep_keeps h hs fun _ hph => ?_
    obtain ⟨hhold, hrep, -, -, hcycle, hbi, -⟩ := (countersOk_iff hph rfl).1 hs
    have hlt := hcycle rfl
    have hnext : (BitVec.ofNat 17 (s.idle.toNat + s.cfg.setCycleMs.toNat)).toNat < s.cfg.setIdleMs.toNat + s.cfg.setCycleMs.toNat := by
      rw [BitVec.toNat_ofNat]
      exact (Nat.mod_le _ _).trans_lt (by omega)
    exact ⟨hhold, hrep, nofun, hnext, nofun, hbi, nofun⟩
  | bootHead =>
    refine mainStep_keeps h hs fun _ hph => ?_
    have hat := (countersOk_iff hph rfl).1 hs
    have ⟨hhold, hrep, _, hidle, _, hbi, _⟩ := hat
    split_ifs with hlt
    · exact ⟨hhold, hrep, nofun, hidle, nofun, hbi, fun _ => hlt⟩
    · exact CountersAt.follow hat rfl
  | bootFrame =>
    refine mainStep_keeps h hs fun _ hph => ?_
    have hat := (countersOk_iff hph rfl).1 hs
    have ⟨hhold, hrep, _, hidle, _, _, hframe⟩ := hat
    have hlt := hframe rfl
    have hnext : (s.bi + 1).toNat ≤ s.cfg.bootScript.length := by bv_omega
    split_ifs
    · exact CountersAt.follow hat rfl
    · exact ⟨hhold, hrep, nofun, hidle, nofun, hnext, nofun⟩
  | _ => cases hp

/-- The counters at reset: all zero (R351). -/
theorem countersOk_resetFrom {c : Cfg} (hc : c.wf = true) (btnN aux : Bool) : CountersOk (State.resetFrom c btnN aux) := by
  obtain ⟨-, -, hcycle, -⟩ := wf_bounds hc
  have hpos : 0 < c.setCycleMs.toNat := by bv_omega
  exact ⟨Nat.zero_le _, Nat.zero_le _, nofun, Nat.add_pos_right _ hpos, nofun, Nat.zero_le _, nofun⟩

/-- Every operation keeps the counters in their bounds: MAIN's steps and RESET alone write them. -/
theorem exec_countersOk {i : Instr} {s t : State} (hc : s.cfg.wf = true) (hd : DisplayOk s) (hs : CountersOk s)
    (h : exec i s = .next t) : CountersOk t := by
  rcases exec_cases h with heq | ⟨dt, -, rfl⟩ | ⟨p, hp⟩ | rfl | rfl | rfl | rfl
  · rw [heq]; exact hs
  · rw [advanceBy_eq_withInputs]; exact hs
  · exact main_countersOk hp hc hd hs h
  · exact handlerStep_keeps h hs hs
  · exact handlerStep_keeps h hs hs
  · exact handlerStep_keeps h hs hs
  · obtain ⟨hwf, rfl⟩ := execReset_cases h
    exact countersOk_resetFrom hwf s.btnN s.aux

/-- HALT and TICK_MASK speak of PHASE in the invariant; the three phases they name are nobody's RET, so PHASE and the owner agree. -/
theorem modesOk_iff_clauses {s : State} (hp : PhaseOk s) :
    ModesOk s ↔ ModeOk s ∧ RequestOk s ∧ HaltOk s ∧ MaskOk s ∧ LedOk s := by
  have hmask : s.tickMask = maskPhase s.owner ↔ MaskOk s := by
    have h17 := owner_eq_iff (q := 0x17) hp rfl (.inr (by decide))
    have h18 := owner_eq_iff (q := 0x18) hp rfl (.inr (by decide))
    simp only [maskPhase, MaskOk, Bool.beq_eq_decide_eq, h17, h18]
  have hhalt : s.owner = 0x00 ↔ s.phase = 0x00 := owner_eq_iff hp rfl (.inl rfl)
  have hexit : settingOrExit s.owner = true ↔ ownsSetting s.owner = true ∨ s.owner = 0x0A := by simp [settingOrExit]
  have hled : (s.mode = 2 ∨ ledPhase s.owner = true → s.led = true) ↔ LedOk s := by simp [LedOk, ledPhase, or_assoc]
  rw [ModesOk, ModesAt, hmask, hhalt, hexit, hled]
  constructor
  · rintro ⟨⟨h0, h2, hset, hshow, h3⟩, ⟨hon, hreq⟩, hrest⟩
    exact ⟨⟨h0, h2, hset, hshow, h3, hon⟩, hreq, hrest⟩
  · rintro ⟨⟨h0, h2, hset, hshow, h3, hon⟩, hreq, hrest⟩
    exact ⟨⟨h0, h2, hset, hshow, h3⟩, ⟨hon, hreq⟩, hrest⟩

/-- The invariant by the registers its clauses share. -/
theorem inv_iff (s : State) : Inv s ↔ ClockOk s ∧ DisplayOk s ∧ ModesOk s ∧ TimersOk s ∧ CountersOk s := by
  constructor
  · rintro ⟨hconfig, htime, hphase, hlines, hpos, hmode, hreq, hhalt, hmask, hled, htimers, hcounters⟩
    have hmodes := (modesOk_iff_clauses hphase).2 ⟨hmode, hreq, hhalt, hmask, hled⟩
    exact ⟨⟨hconfig, htime⟩, ⟨hphase, hlines, hpos⟩, hmodes, htimers, hcounters⟩
  · rintro ⟨⟨hconfig, htime⟩, ⟨hphase, hlines, hpos⟩, hmodes, htimers, hcounters⟩
    obtain ⟨hmode, hreq, hhalt, hmask, hled⟩ := (modesOk_iff_clauses hphase).1 hmodes
    exact ⟨hconfig, htime, hphase, hlines, hpos, hmode, hreq, hhalt, hmask, hled, htimers, hcounters⟩

/-- Every operation keeps the invariant. -/
theorem exec_inv {i : Instr} {s t : State} (hs : Inv s) (h : exec i s = .next t) : Inv t := by
  obtain ⟨hclock, hdisplay, hmodes, htimers, hcounters⟩ := (inv_iff s).1 hs
  exact (inv_iff t).2 ⟨exec_clockOk hclock h, exec_displayOk hdisplay h, exec_modesOk hdisplay hmodes h, exec_timersOk htimers h,
    exec_countersOk hclock.1.1 hdisplay hcounters h⟩

/-- The reset state over legal straps has the invariant (R47, R351). -/
theorem inv_resetFrom {c : Cfg} (hc : c.wf = true) (btnN aux : Bool) : Inv (State.resetFrom c btnN aux) :=
  (inv_iff _).2 ⟨clockOk_resetFrom hc btnN aux, displayOk_resetFrom c btnN aux, modesOk_resetFrom c btnN aux,
    timersOk_resetFrom hc btnN aux, countersOk_resetFrom hc btnN aux⟩

/-- Settles O58: a step is one operation on a state with the same registers, and every operation keeps the invariant. -/
theorem stepsKeepTheInvariant : Obligations.StepsKeepTheInvariant := by
  intro s t hs h
  obtain ⟨i, sc, ins, hi⟩ := step_next h
  exact exec_inv (s := { s with sched := sc, inputs := ins }) hs hi

/-- Settles O57: the reset state over legal straps has the invariant, and power-on answers it exactly for legal straps. -/
theorem powerOnEstablishesInvariant : Obligations.PowerOnEstablishesInvariant := by
  refine ⟨inv_resetFrom (by decide) true false, fun c btnN aux => ⟨fun hc => ?_, fun hc => ?_⟩⟩
  · exact ⟨State.resetFrom c btnN aux, by simp [powerOn, hc], inv_resetFrom hc btnN aux, rfl, rfl, rfl⟩
  · simp [powerOn, hc]

end Sys2Proof.Machine
end

section
/-! SUPPORT. Who writes TimeOfDay, the configuration and the output ports (R40, R80). -/
namespace Sys2Proof.Machine

/-- The registers of TimeOfDay. -/
def State.timeRegs (s : State) : BitVec 6 × BitVec 6 × BitVec 5 := (s.sec, s.min, s.hr)

/-- The display lines. -/
def State.displayLines (s : State) : SegN × BitVec 4 × Bool := (s.segN, s.dig, s.colonN)

/-- The operations other than RESET that drive the LED. -/
def ledWriters : List Instr := [.shwBegin, .exitOff, .ledBegin, .ledLoop]

/-- What the ownership table R80 lets operation i change between s and t, for every i but RESET. -/
structure OnlyOwnersWrite (i : Instr) (s t : State) : Prop where
  cfg_eq : t.cfg = s.cfg
  straps_eq : t.straps = s.straps
  time_eq : i ≠ .irqTick → i ≠ .setMut → t.timeRegs = s.timeRegs
  lines_eq : i ≠ .ddOn → i ≠ .ddOff → t.displayLines = s.displayLines
  led_eq : i ∉ ledWriters → t.led = s.led

/-- A held operation writes nothing. -/
theorem OnlyOwnersWrite.held (i : Instr) (s : State) : OnlyOwnersWrite i s s :=
  ⟨rfl, rfl, fun _ _ => rfl, fun _ _ => rfl, fun _ => rfl⟩

/-- MAIN's steps write these registers in SET_MUT, DD_ON, DD_OFF and the four drivers of the LED only. -/
theorem main_onlyOwnersWrite {i : Instr} {p : Phase} {s t : State} (hp : mainPhase i = some p) (h : exec i s = .next t) :
    OnlyOwnersWrite i s t := by
  cases i with
  | setMut =>
    exact mainStep_keeps h (.held _ s) fun _ _ => ⟨rfl, rfl, fun _ hi => absurd rfl hi, fun _ _ => rfl, fun _ => rfl⟩
  | ddOn =>
    exact mainStep_keeps h (.held _ s) fun _ _ => ⟨rfl, rfl, fun _ _ => rfl, fun hi => absurd rfl hi, fun _ => rfl⟩
  | ddOff =>
    refine mainStep_keeps h (.held _ s) fun _ _ => ?_
    split_ifs <;> exact ⟨rfl, rfl, fun _ _ => rfl, fun _ hi => absurd rfl hi, fun _ => rfl⟩
  | shwBegin | exitOff | ledBegin =>
    exact mainStep_keeps h (.held _ s) fun _ _ =>
      ⟨rfl, rfl, fun _ _ => rfl, fun _ _ => rfl, fun hi => absurd (by decide) hi⟩
  | ledLoop =>
    refine mainStep_keeps h (.held _ s) fun _ _ => ?_
    split_ifs <;> exact ⟨rfl, rfl, fun _ _ => rfl, fun _ _ => rfl, fun hi => absurd (by decide) hi⟩
  | slpEval | shwHead | shwPoll | shwExpire | setHead | setBlink | setPoll | bootHead | bootFrame =>
    refine mainStep_keeps h (.held _ s) fun _ _ => ?_
    split_ifs <;> exact ⟨rfl, rfl, fun _ _ => rfl, fun _ _ => rfl, fun _ => rfl⟩
  | shwDb0 | shwDb1 | shwDb2 | shwDark | shwDarkw | setBegin | setBdark | setBdarkw | setLock | setUnlock | setAcc
  | ledDb0 | ledDb1 | ledDb2 | ledExit | rnSnap | rgLoad | ddHold | bootDark | bootDarkw =>
    exact mainStep_keeps h (.held _ s) fun _ _ => ⟨rfl, rfl, fun _ _ => rfl, fun _ _ => rfl, fun _ => rfl⟩
  | _ => cases hp

/-- Every operation but RESET respects the ownership table: of the handlers IRQ_TICK alone writes TimeOfDay, and no event of the
environment writes any of its registers (R80). -/
theorem exec_onlyOwnersWrite {i : Instr} {s t : State} (hi : i ≠ .reset) (h : exec i s = .next t) : OnlyOwnersWrite i s t := by
  rcases exec_cases h with heq | ⟨dt, -, rfl⟩ | ⟨p, hp⟩ | rfl | rfl | rfl | rfl
  · rw [heq]; exact ⟨rfl, rfl, fun _ _ => rfl, fun _ _ => rfl, fun _ => rfl⟩
  · rw [advanceBy_eq_withInputs]; exact ⟨rfl, rfl, fun _ _ => rfl, fun _ _ => rfl, fun _ => rfl⟩
  · exact main_onlyOwnersWrite hp h
  · exact handlerStep_keeps h (.held _ s) ⟨rfl, rfl, fun hne => absurd rfl hne, fun _ _ => rfl, fun _ => rfl⟩
  · exact handlerStep_keeps h (.held _ s) ⟨rfl, rfl, fun _ _ => rfl, fun _ _ => rfl, fun _ => rfl⟩
  · exact handlerStep_keeps h (.held _ s) ⟨rfl, rfl, fun _ _ => rfl, fun _ _ => rfl, fun _ => rfl⟩
  · exact absurd rfl hi

/-- A SET_MUT that changes the state runs inside the bracket (R81, R232). -/
theorem tickMask_of_setMut_changes {s t : State} (hm : MaskOk s) (h : exec .setMut s = .next t) (hne : t ≠ s) :
    s.tickMask = true := by
  obtain ⟨-, hp, -, -⟩ | ⟨-, heq⟩ := mainStep_cases h
  · rw [hm, hp]; rfl
  · exact absurd heq hne

/-- Settles O51: the ownership table leaves IRQ_TICK and SET_MUT as TimeOfDay's writers, and SET_MUT runs in the bracket only. -/
theorem timeAndConfigOwnership : Obligations.TimeAndConfigOwnership := by
  intro i s t hm h hi
  have hown := exec_onlyOwnersWrite hi h
  refine ⟨hown.cfg_eq, hown.straps_eq, fun hchange => ?_⟩
  have htime : t.timeRegs ≠ s.timeRegs := by
    simpa [State.timeRegs, Prod.ext_iff, imp_iff_not_or] using hchange
  by_cases htick : i = .irqTick
  · exact .inl htick
  · by_cases hmut : i = .setMut
    · subst hmut
      exact .inr ⟨rfl, tickMask_of_setMut_changes hm h fun heq => htime (by rw [heq])⟩
    · exact absurd (hown.time_eq htick hmut) htime

/-- Settles O52: the ownership table names the drivers of the display lines and of the LED, beside RESET. -/
theorem outputOwnership : Obligations.OutputOwnership := by
  intro i s t h
  by_cases hi : i = .reset
  · simp [hi]
  · have hown := exec_onlyOwnersWrite hi h
    constructor
    · intro hchange
      have hlines : t.displayLines ≠ s.displayLines := by
        simpa [State.displayLines, Prod.ext_iff, imp_iff_not_or] using hchange
      by_contra hno
      obtain ⟨hon, hoff, -⟩ : i ≠ .ddOn ∧ i ≠ .ddOff ∧ i ≠ .reset := by simpa using hno
      exact hlines (hown.lines_eq hon hoff)
    · intro hchange
      have hwriter : i ∈ ledWriters := by_contra fun hno => hchange (hown.led_eq hno)
      simpa [ledWriters, hi] using hwriter

end Sys2Proof.Machine
end

section
/-! SUPPORT. The exclusion bracket from SET_LOCK to SET_UNLOCK, and a tick that fires inside it (R81, R82). -/
namespace Sys2Proof.Machine

/-- The list of steps goes on from the next state of its first one. -/
theorem execAll_cons {i : Instr} {s t : State} (h : exec i s = .next t) (is : List Instr) :
    execAll (i :: is) s = execAll is t := by
  simp only [execAll, h]

/-- An enabled handler takes its interrupt (R310 to R313). -/
theorem handlerStep_taken {n : Nat} {s : State} (h : s.irqEnabled n = true) (body : State → State) :
    handlerStep n body s = .next { (body s).clearPending n with halt := false } := by
  simp only [handlerStep, takeWhen, h, if_true]
  rfl

/-- A handler that is not enabled changes nothing (log 3). -/
theorem handlerStep_held {n : Nat} {s : State} (h : s.irqEnabled n = false) (body : State → State) :
    handlerStep n body s = .next s := by
  simp only [handlerStep, takeWhen, h, Bool.false_eq_true, if_false]

/-- The tick's handler is enabled while a tick is pending and TICK_MASK is 0 (R37, R310). -/
theorem irqEnabled_tick (s : State) : s.irqEnabled 0 = (s.ip.getLsbD 0 && !s.tickMask) := rfl

/-- TICK_MASK holds the tick's handler (R37). -/
theorem irqEnabled_tick_of_masked {s : State} (h : s.tickMask = true) : s.irqEnabled 0 = false := by
  simp [irqEnabled_tick, h]

/-- Writing a time of day and reading it back: its fields fit the registers (R23, R76). -/
theorem setTime_time_of_timeOfDayOk {s : State} {t : Time} {mode12 : Bool} (h : timeOfDayOk mode12 t = true) :
    (s.setTime t).time = t := by
  obtain ⟨hsec, hmin, hhr⟩ := (timeOfDayOk_iff _ _).1 h
  exact setTime_time (by omega) (by omega) (by split_ifs at hhr <;> omega)

/-- The time SET_MUT writes: the increment, or the jump once HOLD has reached the threshold (R232). -/
def State.changedTime (s : State) : Time :=
  if s.hold.toNat < s.cfg.accelCycles.toNat then incFn s.cfg s.time else jumpFn s.cfg s.time

/-- SET_MUT's time comes from NORMALIZE (R176, R177). -/
theorem timeOfDayOk_changedTime (s : State) : timeOfDayOk s.cfg.mode12 s.changedTime = true := by
  unfold State.changedTime
  split_ifs <;> exact timeOfDayOk_normalize _ _

/-- SET_LOCK's effect (R231). -/
def State.lockTick (s : State) : State := { s with tickMask := true }.goto phSetMut

/-- SET_MUT's effect (R232). -/
def State.mutateTime (s : State) : State := (s.setTime s.changedTime).goto phSetUnlock

/-- SET_UNLOCK's effect (R233). -/
def State.unlockTick (s : State) : State := { s with tickMask := false }.goto phSetAcc

/-- The effect of an ADVANCE that reaches the tick boundary with no tick pending (R309, R321). -/
def State.fireTick (s : State) (dt : Nat) : State := { s.passTime dt with tcnt := 0 }.setPending srcTick

/-- IRQ_TICK's effect (R310). -/
def State.serveTick (s : State) : State := { (s.setTime (tickFn s.cfg s.time)).clearPending srcTick with halt := false }

/-- SET_LOCK where MAIN stands at it. -/
theorem exec_setLock {s : State} (h : MainAt 0x16 s) : exec .setLock s = .next s.lockTick := by
  obtain ⟨hh, hp⟩ := h
  exact mainStep_taken hh hp rfl _

/-- SET_MUT where MAIN stands at it. -/
theorem exec_setMut {s : State} (h : MainAt 0x17 s) : exec .setMut s = .next s.mutateTime := by
  obtain ⟨hh, hp⟩ := h
  exact mainStep_taken hh hp rfl _

/-- SET_UNLOCK where MAIN stands at it. -/
theorem exec_setUnlock {s : State} (h : MainAt 0x18 s) : exec .setUnlock s = .next s.unlockTick := by
  obtain ⟨hh, hp⟩ := h
  exact mainStep_taken hh hp rfl _

/-- A masked IRQ_TICK is held (R37; log 3). -/
theorem exec_irqTick_of_masked {s : State} (h : s.tickMask = true) : exec .irqTick s = .next s :=
  handlerStep_held (irqEnabled_tick_of_masked h) _

/-- An enabled IRQ_TICK is taken (R310). -/
theorem exec_irqTick_of_enabled {s : State} (h : s.irqEnabled 0 = true) : exec .irqTick s = .next s.serveTick :=
  handlerStep_taken h _

/-- IRQ_TICK adds the period to the time it finds (R310). -/
theorem serveTick_time (s : State) : s.serveTick.time = tickFn s.cfg s.time :=
  setTime_time_of_timeOfDayOk (s := s) (timeOfDayOk_tickFn s.cfg s.time)

/-- IRQ_TICK clears its pending bit (R310). -/
theorem serveTick_ip (s : State) : s.serveTick.ip.getLsbD 0 = false := by
  simp [State.serveTick, ipBit, srcTick]

/-- A positive ADVANCE up to the boundary fires the tick. -/
theorem exec_advance_fireTick {s : State} {dt : Nat} (hip : s.ip.getLsbD 0 = false) (hdt : 1 ≤ dt)
    (hb : s.tcnt.toNat + dt = s.cfg.periodUs) : exec (.advance dt) s = .next (s.fireTick dt) := by
  have henabled : s.advanceEnabled dt = true := (advanceEnabled_iff s dt).2 ⟨hdt, hb.le⟩
  have heffect : s.advanceBy dt = s.fireTick dt := by
    obtain ⟨-, h⟩ | ⟨hne, -⟩ := advanceBy_cases s dt
    · obtain ⟨hpend, -⟩ | ⟨-, hraise⟩ := tickRaise_cases { s.passTime dt with tcnt := 0 }
      · exact absurd (hip.symm.trans hpend) (by decide)
      · exact h.trans hraise
    · exact absurd hb hne
  calc exec (.advance dt) s = takeWhen (s.advanceEnabled dt) (s.advanceBy dt) s := rfl
    _ = .next (s.fireTick dt) := by rw [takeWhen_eq_next, henabled, if_pos rfl, heffect]

/-- A fired tick is pending. -/
theorem fireTick_ip (s : State) (dt : Nat) : (s.fireTick dt).ip.getLsbD 0 = true := by
  simp [State.fireTick, ipBit, srcTick]

/-- The state at SET_UNLOCK, whichever of SET_MUT and the tick came first: they write different registers. -/
def State.atUnlock (s : State) (dt : Nat) : State := (s.lockTick.mutateTime).fireTick dt

/-- The tick before SET_MUT: both times IRQ_TICK is held. -/
theorem execAll_tick_before_setMut {s : State} {dt : Nat} (hs : MainAt 0x16 s) (hip : s.ip.getLsbD 0 = false) (hdt : 1 ≤ dt)
    (hb : s.tcnt.toNat + dt = s.cfg.periodUs) :
    execAll [.setLock, .advance dt, .irqTick, .setMut, .irqTick] s = .next (s.atUnlock dt) := by
  have hmut : MainAt 0x17 (s.lockTick.fireTick dt) := ⟨hs.1, rfl⟩
  rw [execAll_cons (exec_setLock hs), execAll_cons (exec_advance_fireTick (s := s.lockTick) hip hdt hb),
    execAll_cons (exec_irqTick_of_masked rfl), execAll_cons (exec_setMut hmut), execAll_cons (exec_irqTick_of_masked rfl)]
  rfl

/-- The tick after SET_MUT: IRQ_TICK is held. -/
theorem execAll_tick_after_setMut {s : State} {dt : Nat} (hs : MainAt 0x16 s) (hip : s.ip.getLsbD 0 = false) (hdt : 1 ≤ dt)
    (hb : s.tcnt.toNat + dt = s.cfg.periodUs) :
    execAll [.setLock, .setMut, .advance dt, .irqTick] s = .next (s.atUnlock dt) := by
  have hmut : MainAt 0x17 s.lockTick := ⟨hs.1, rfl⟩
  rw [execAll_cons (exec_setLock hs), execAll_cons (exec_setMut hmut),
    execAll_cons (exec_advance_fireTick (s := s.lockTick.mutateTime) hip hdt hb), execAll_cons (exec_irqTick_of_masked rfl)]
  rfl

/-- A tick pending at SET_UNLOCK runs right after it, on the time it finds (R82, R233, R310). -/
theorem execAll_setUnlock_irqTick {s : State} (hs : MainAt 0x18 s) (hip : s.ip.getLsbD 0 = true) :
    ∃ u, execAll [.setUnlock, .irqTick] s = .next u ∧ u.time = tickFn s.cfg s.time ∧ u.ip.getLsbD 0 = false ∧
      u.tickOverrun = s.tickOverrun ∧ u.phase = 0x19 := by
  have henabled : s.unlockTick.irqEnabled 0 = true := by rw [irqEnabled_tick, Bool.and_eq_true]; exact ⟨hip, rfl⟩
  have hrun : execAll [.setUnlock, .irqTick] s = .next s.unlockTick.serveTick := by
    rw [execAll_cons (exec_setUnlock hs), execAll_cons (exec_irqTick_of_enabled henabled)]
    rfl
  exact ⟨_, hrun, serveTick_time s.unlockTick, serveTick_ip s.unlockTick, rfl, rfl⟩

/-- Settles O48: in both orders MAIN comes to SET_UNLOCK in the same state, the time changed and the tick pending and masked, and the
tick runs after the bracket. -/
theorem bracketDelaysTheTick : Obligations.BracketDelaysTheTick := by
  intro s dt hs hip hdt hb set bracket hbracket
  have hrun : execAll bracket s = .next (s.atUnlock dt) := by
    simp only [List.mem_cons, List.not_mem_nil, or_false] at hbracket
    obtain rfl | rfl := hbracket
    · exact execAll_tick_before_setMut hs hip hdt hb
    · exact execAll_tick_after_setMut hs hip hdt hb
  have htime : (s.atUnlock dt).time = set s.time :=
    setTime_time_of_timeOfDayOk (s := s.lockTick) (timeOfDayOk_changedTime s)
  have hpending : (s.atUnlock dt).ip.getLsbD 0 = true := fireTick_ip _ dt
  obtain ⟨u, hunlock, hu, huip, huover, huphase⟩ := execAll_setUnlock_irqTick (s := s.atUnlock dt) ⟨hs.1, rfl⟩ hpending
  exact ⟨_, u, hrun, htime, hpending, irqEnabled_tick_of_masked rfl, hunlock, htime ▸ hu, huip, huover, huphase⟩

end Sys2Proof.Machine
end

section
/-! SUPPORT. The decoder and the encoder as inverses, the reserved OP8 codes, and the step of a schedule (R96, R98, R103, R105, R107). -/
namespace Sys2Proof.Machine

/-- Every well-formed operation decodes from its words, whatever words follow (R98, R107). -/
theorem decode_encode {i : Instr} (h : i.wf = true) (rest : List TraceWord) : decode (encode i ++ rest) = .ok (i, rest) := by
  cases i with
  | encGlyphOf c => exact Laws.RoundTrip.encGlyphOf c h rest
  | _ => rfl

/-- ADVANCE decodes with any operand (R98; log 15). -/
theorem decode_encode_advance (dt : Nat) (rest : List TraceWord) :
    decode (encode (.advance dt) ++ rest) = .ok (.advance dt, rest) := rfl

/-- A glyph symbol is read as ENC_GLYPH of its code only where the code has no row (log 9). -/
theorem wfGlyphOf_of_decodeGlyph : ∀ c : GSym, decodeGlyph c = .encGlyphOf c → wfGlyphOf c = true := by decide

/-- The decoder reads well-formed operations only, but for the operand of ADVANCE (log 9, log 15). -/
theorem wf_of_decode {ws rest : List TraceWord} {i : Instr} (h : decode ws = .ok (i, rest)) :
    i.wf = true ∨ ∃ dt, i = .advance dt := by
  cases i with
  | advance dt => exact .inr ⟨dt, rfl⟩
  | encGlyphOf c =>
    obtain rfl : ws = .gsym8 c :: rest := eq_encode_of_decode h
    have hread : decodeGlyph c = .encGlyphOf c := by simpa [decode] using h
    exact .inl (wfGlyphOf_of_decodeGlyph c hread)
  | _ => exact .inl rfl

/-- Settles O1: what is read is what is written and is well formed, and the words of an operation are read as it. -/
theorem decodeExactlyInvertsEncode : Obligations.DecodeExactlyInvertsEncode := by
  intro ws rest i
  constructor
  · intro h
    exact ⟨eq_encode_of_decode h, wf_of_decode h⟩
  · rintro ⟨rfl, hwf | ⟨dt, rfl⟩⟩
    · exact decode_encode hwf rest
    · exact decode_encode_advance dt rest

/-- The OP8 codes of the tables other than ADVANCE's, in the ranges they fill (R96, R103). -/
abbrev ListedOp (c : OpCode) : Prop :=
  let n := c.toNat
  n ≤ 0x0A ∨ (0x10 ≤ n ∧ n ≤ 0x19) ∨ (0x20 ≤ n ∧ n ≤ 0x25) ∨ (0x30 ≤ n ∧ n ≤ 0x34) ∨ (0x38 ≤ n ∧ n ≤ 0x3B) ∨
    (0x40 ≤ n ∧ n ≤ 0x42) ∨ (0x81 ≤ n ∧ n ≤ 0x86) ∨ (0xC0 ≤ n ∧ n ≤ 0xC8)

/-- The decoder's rows are the listed codes (R96, R103). -/
theorem isSome_decodeOp_iff : ∀ c : OpCode, (decodeOp c).isSome = true ↔ ListedOp c := by decide

/-- A code with a row is read as its operation (R98). -/
theorem decode_op8_of_some {c : OpCode} {i : Instr} (hc : c ≠ advanceCode) (ho : decodeOp c = some i) (rest : List TraceWord) :
    decode (.op8 c :: rest) = .ok (i, rest) := by
  simp only [decode, hc, ho, if_false]

/-- A code without a row is an error by name (R105). -/
theorem decode_op8_of_none {c : OpCode} (hc : c ≠ advanceCode) (ho : decodeOp c = none) (rest : List TraceWord) :
    decode (.op8 c :: rest) = .error (.reservedOp c) := by
  simp only [decode, hc, ho, if_false]

/-- Settles O2: a listed code has a row, which the decoder answers; a code without one fails to decode, which the step refuses. -/
theorem reservedCodesAreRefused : Obligations.ReservedCodesAreRefused := by
  intro c hc n listed
  constructor
  · intro hlisted
    obtain ⟨i, ho⟩ := Option.isSome_iff_exists.1 ((isSome_decodeOp_iff c).2 hlisted)
    exact ⟨i, decode_op8_of_some hc ho⟩
  · intro hreserved s rest hs
    have ho : decodeOp c = none := by
      rw [← Option.not_isSome_iff_eq_none, isSome_decodeOp_iff]
      exact hreserved
    have herror : decode s.sched = .error (.reservedOp c) := by rw [hs, decode_op8_of_none hc ho]
    exact step_of_decode_error (by simp [hs]) herror

/-- Settles O3: each word list is the encoder's, so it decodes to its operation. -/
theorem rowWordsDecode : Obligations.RowWordsDecode := by
  refine ⟨fun e he => ?_, decode_encode_advance 2000 _, decode_encode (i := .digit7) rfl [],
    decode_encode (i := .glyphUpH) rfl [], decode_encode (i := .encGlyphOf 0x61) (by decide) []⟩
  have hrow : encode e.2 = [.op8 e.1] ∧ e.2.wf = true := by
    revert e
    decide
  obtain ⟨hwords, hwf⟩ := hrow
  have hdecode := decode_encode hwf []
  rwa [hwords] at hdecode

/-- Settles O4: the words decode to the operation, and the step runs what it decodes. -/
theorem stepRunsDecodedOperation : Obligations.StepRunsDecodedOperation := by
  intro s i rest hwf hs
  have hdecode : decode s.sched = .ok (i, rest) := by rw [hs, decode_encode hwf]
  exact step_of_decode_ok hdecode

end Sys2Proof.Machine
end

section
/-! SUPPORT. The number formats as steps: the digits of BCD4 and the value of TIMEVALUE (R99 to R101, R104). -/
namespace Sys2Proof.Machine

/-- The thousands digit holds the quotient for a legal value (R99, R101). -/
theorem bcdThousands_toNat {v : Val14} (h : v.toNat ≤ 9999) : (bcdThousands v).toNat = v.toNat / 1000 := by
  simp only [bcdThousands, BitVec.toNat_ofNat]
  omega

/-- The hundreds digit holds its remainder (R101). -/
theorem bcdHundreds_toNat (v : Val14) : (bcdHundreds v).toNat = v.toNat / 100 % 10 := by
  simp only [bcdHundreds, BitVec.toNat_ofNat]
  omega

/-- The tens digit holds its remainder (R101). -/
theorem bcdTens_toNat (v : Val14) : (bcdTens v).toNat = v.toNat / 10 % 10 := by
  simp only [bcdTens, BitVec.toNat_ofNat]
  omega

/-- The ones digit holds its remainder (R101). -/
theorem bcdOnes_toNat (v : Val14) : (bcdOnes v).toNat = v.toNat % 10 := by
  simp only [bcdOnes, BitVec.toNat_ofNat]
  omega

/-- BCD4 of a legal value puts its four digits on the wires (R101). -/
theorem exec_bcd4_of_le {s : State} (h : s.fn.value.toNat ≤ 9999) :
    exec .bcd4 s = .next { s with fn := { s.fn with
      d1 := bcdThousands s.fn.value, d2 := bcdHundreds s.fn.value, d3 := bcdTens s.fn.value, d4 := bcdOnes s.fn.value } } :=
  if_pos h

/-- Settles O13: the digits are the value's quotients modulo ten, and a larger value is refused. -/
theorem bcd4SplitsTheValue : Obligations.Bcd4SplitsTheValue := by
  intro s
  constructor
  · intro hv
    refine ⟨_, _, _, _, exec_bcd4_of_le hv, ?_⟩
    rw [bcdThousands_toNat hv, bcdHundreds_toNat, bcdTens_toNat, bcdOnes_toNat]
    omega
  · intro hv
    exact (execBcd4_refused_iff s .valueTooLarge).2 ⟨rfl, hv⟩

/-- TIMEVALUE's result fits VAL14 for hours of five bits and minutes of six (R100). -/
theorem timeValue_toNat (h : BitVec 5) (m : BitVec 6) : (timeValue h.toNat m.toNat).toNat = h.toNat * 100 + m.toNat := by
  have hh := h.isLt
  have hm := m.isLt
  simp only [timeValue, BitVec.toNat_ofNat]
  omega

/-- Settles O14: the sum fits the wire, and a normalised time bounds it by 23 x 100 + 59. -/
theorem timevalueIsHoursTimesHundred : Obligations.TimevalueIsHoursTimesHundred := by
  intro s
  have hvalue := timeValue_toNat s.hr s.min
  refine ⟨_, rfl, hvalue, fun htime => ?_⟩
  obtain ⟨-, hmin, hhr⟩ := (timeOfDayOk_iff _ _).1 htime
  simp only [State.time] at hmin hhr
  split_ifs at hhr <;> omega

end Sys2Proof.Machine
end

section
/-! SUPPORT. The glyph symbols offered to the Segment Encoder (R72, R104, R123 to R125). -/
namespace Sys2Proof

/-- An address the table does not list reads as all segments off (R72). -/
theorem Memory.read_of_not_listed {m : GlyphTable} {a : Nat} (h : ∀ w, (a, w) ∉ m) : Memory.read m a = 0 := by
  induction m with
  | nil => rfl
  | cons e rest ih =>
    obtain ⟨b, v⟩ := e
    have hab : a ≠ b := by
      rintro rfl
      exact h v List.mem_cons_self
    rw [Memory.read, if_neg hab]
    exact ih fun w hw => h w (List.mem_cons_of_mem _ hw)

end Sys2Proof

namespace Sys2Proof.Machine

/-- A glyph symbol on the wires: its code, the table's mask there, and the complement (R123, R125; log 9). -/
theorem presentGlyph_eq (c : GSym) (s : State) :
    presentGlyph c s = { s with fn := { s.fn with
      gsym := c, mask := Memory.read s.cfg.glyphTable c.toNat, segn := ~~~Memory.read s.cfg.glyphTable c.toNat } } := by
  simp only [presentGlyph, encGlyph, romGlyph, driveSeg_eq]

/-- An operation whose word is a glyph symbol offers that symbol (R104, R123; log 9). -/
theorem exec_of_encode_gsym8 {i : Instr} {c : GSym} (h : encode i = [.gsym8 c]) (s : State) :
    exec i s = .next (presentGlyph c s) := by
  cases i with
  | glyphSpace | glyphMinus | glyph0 | glyph1 | glyph2 | glyph3 | glyph4 | glyph5 | glyph6 | glyph7 | glyph8 | glyph9
  | glyphUpA | glyphUpC | glyphUpE | glyphUpF | glyphUpH | glyphUpL | glyphUpP | glyphUpS | glyphUpU
  | glyphLowB | glyphLowC | glyphLowD | glyphLowH | glyphLowN | glyphLowO | glyphLowR | glyphLowT | glyphLowU | glyphLowY
  | encGlyphOf d => cases h; rfl
  | _ => cases h

/-- Settles O16: a row's word is its glyph symbol, the reference table holds the row's mask, and an unlisted code reads as 0x00. -/
theorem glyphSymbolRows : Obligations.GlyphSymbolRows := by
  intro s
  refine ⟨fun e he => ?_, fun c => ?_⟩
  · have hrow : encode e.1 = [.gsym8 e.2.1] ∧ Memory.read referenceGlyphs e.2.1.toNat = e.2.2.1 ∧ ~~~e.2.2.1 = e.2.2.2 := by
      revert e
      decide
    obtain ⟨hword, hmask, hsegn⟩ := hrow
    have hexec := exec_of_encode_gsym8 hword s
    rw [presentGlyph_eq] at hexec
    refine ⟨hexec, fun hreference => ?_⟩
    rwa [hreference, hmask, hsegn] at hexec
  · have hexec := exec_of_encode_gsym8 (i := .encGlyphOf c) rfl s
    rw [presentGlyph_eq] at hexec
    refine ⟨hexec, fun hunlisted => ?_⟩
    rwa [Memory.read_of_not_listed hunlisted] at hexec

end Sys2Proof.Machine
end

section
/-! SUPPORT. The functions of the Segment Encoder as steps, and the digit symbols offered to it (R71, R72, R121 to R123, R125). -/
namespace Sys2Proof

/-- The addresses of a table in canonical form rise: every later one lies above the first (log 16). -/
theorem Memory.lt_of_mem_tail {m : GlyphTable} {a b : Nat} {v w : Mask} (hwf : Memory.wf ((a, w) :: m) = true)
    (hmem : (b, v) ∈ m) : a < b := by
  induction m generalizing a w with
  | nil => cases hmem
  | cons e rest ih =>
    obtain ⟨c, u⟩ := e
    simp only [Memory.wf, Bool.and_eq_true, decide_eq_true_eq] at hwf
    obtain ⟨⟨hac, -⟩, hrest⟩ := hwf
    cases hmem with
    | head => exact hac
    | tail _ hmem => exact hac.trans (ih hrest hmem)

/-- A listed address of a table in canonical form reads as the mask it is listed with (R72). -/
theorem Memory.read_of_listed {m : GlyphTable} {a : Nat} {w : Mask} (hwf : Memory.wf m = true) (hmem : (a, w) ∈ m) :
    Memory.read m a = w := by
  induction m with
  | nil => cases hmem
  | cons e rest ih =>
    cases hmem with
    | head => exact if_pos rfl
    | tail _ hmem =>
      rw [Memory.read, if_neg (Memory.lt_of_mem_tail hwf hmem).ne']
      exact ih (Memory.wf_tail hwf) hmem

end Sys2Proof

namespace Sys2Proof.Machine

/-- DIGIT_ROM holds the ten numerals and shows nothing for any other symbol (R71, R122). -/
theorem encDigit_eq_numeral : ∀ d : DSym, encDigit d = numeral d.toNat := by decide

/-- ENC_DIGIT puts the mask of the digit symbol on the mask wire (R121). -/
theorem exec_encDigit (s : State) : exec .encDigit s = .next { s with fn := { s.fn with mask := encDigit s.fn.dsym } } := rfl

/-- ENC_GLYPH puts what the configuration's table holds at the glyph symbol on the mask wire (R123). -/
theorem exec_encGlyph (s : State) :
    exec .encGlyph s = .next { s with fn := { s.fn with mask := Memory.read s.cfg.glyphTable s.fn.gsym.toNat } } := rfl

/-- DRIVE_SEG puts the driven mask on the segment wire (R125). -/
theorem exec_driveSeg (s : State) : exec .driveSeg s = .next { s with fn := { s.fn with segn := driveSeg s.fn.mask } } := rfl

/-- Settles O12: the digit table is the numerals, a listed code reads its own entry and an unlisted one 0x00, and the polarity
stage is the complement. -/
theorem segmentEncoderSteps : Obligations.SegmentEncoderSteps := by
  intro s
  refine ⟨?_, fun w hlisted hwf => ?_, fun hunlisted => ?_, ?_⟩
  · rw [exec_encDigit, encDigit_eq_numeral]
  · rw [exec_encGlyph, Memory.read_of_listed hwf hlisted]
  · rw [exec_encGlyph, Memory.read_of_not_listed hunlisted]
  · rw [exec_driveSeg, driveSeg_eq]

/-- A digit symbol on the wires: its code, its numeral, and the complement (R122, R125; log 9). -/
theorem presentDigit_eq (d : DSym) (s : State) :
    presentDigit d s = { s with fn := { s.fn with dsym := d, mask := numeral d.toNat, segn := ~~~numeral d.toNat } } := by
  simp only [presentDigit, encDigit_eq_numeral, driveSeg_eq]

/-- An operation whose word is a digit symbol offers that symbol (R122; log 9). -/
theorem exec_of_encode_dsym4 {i : Instr} {d : DSym} (h : encode i = [.dsym4 d]) (s : State) :
    exec i s = .next (presentDigit d s) := by
  cases i with
  | digit0 | digit1 | digit2 | digit3 | digit4 | digit5 | digit6 | digit7 | digit8 | digit9
  | blank | undef11 | undef12 | undef13 | undef14 | undef15 => cases h; rfl
  | _ => cases h

/-- Settles O15: a row's word is its digit symbol, whose numeral is the row's mask and whose complement is the row's SEG_N value. -/
theorem digitSymbolRows : Obligations.DigitSymbolRows := by
  intro s e he
  have hrow : encode e.1 = [.dsym4 e.2.1] ∧ numeral e.2.1.toNat = e.2.2.1 ∧ ~~~e.2.2.1 = e.2.2.2 := by
    revert e
    decide
  obtain ⟨hword, hmask, hsegn⟩ := hrow
  rw [exec_of_encode_dsym4 hword, presentDigit_eq, hmask, hsegn]

end Sys2Proof.Machine
end

section
/-! SUPPORT. The steps of the Display Driver (R140 to R150), RENDER_NUMBER with an operand (R142), and the timed waits (R96). -/
namespace Sys2Proof.Machine

/-- The masks of a legal value are the numerals of its digits, position 1 blank below 1000 (R101, R102, R147). -/
theorem snapValue_eq (s : State) {v : Val14} (hv : v.toNat ≤ 9999) :
    s.snapValue v = { s with
      m1 := if v.toNat < 1000 then 0 else numeral (v.toNat / 1000), m2 := numeral (v.toNat / 100 % 10),
      m3 := numeral (v.toNat / 10 % 10), m4 := numeral (v.toNat % 10), pos := 1 } := by
  have hlead : encDigit (leadingSym (bcdThousands v)) = if v.toNat < 1000 then 0 else numeral (v.toNat / 1000) := by
    have hzero : bcdThousands v = 0 ↔ v.toNat < 1000 := by
      rw [← BitVec.toNat_inj, bcdThousands_toNat hv]
      simp only [BitVec.ofNat_eq_ofNat, BitVec.toNat_ofNat]
      omega
    simp only [leadingSym, hzero]
    split_ifs
    · rfl
    · rw [encDigit_eq_numeral, bcdThousands_toNat hv]
  rw [State.snapValue, hlead, encDigit_eq_numeral, encDigit_eq_numeral, encDigit_eq_numeral, bcdHundreds_toNat, bcdTens_toNat,
    bcdOnes_toNat]
  rfl

/-- A time's value is legal, so its digits are those of HR x 100 + MIN (R99, R100). -/
theorem timeValue_le (h : BitVec 5) (m : BitVec 6) : (timeValue h.toNat m.toNat).toNat ≤ 9999 := by
  rw [timeValue_toNat]
  omega

/-- RN_SNAP at its phase (R141). -/
theorem exec_rnSnap {s : State} (h : MainAt 0x30 s) :
    exec .rnSnap s = .next ((s.snapValue (timeValue s.hr.toNat s.min.toNat)).goto phDdOn) :=
  mainStep_taken h.1 h.2 rfl _

/-- RG_LOAD at its phase (R150). -/
theorem exec_rgLoad {s : State} (h : MainAt 0x31 s) : exec .rgLoad s = .next (s.loadGlyphs.goto phDdOn) :=
  mainStep_taken h.1 h.2 rfl _

/-- DD_ON at its phase (R143). -/
theorem exec_ddOn {s : State} (h : MainAt 0x32 s) :
    exec .ddOn s = .next ((s.lightPos.startWait s.cfg.dwellUs.toNat).goto phDdHold) :=
  mainStep_taken h.1 h.2 rfl _

/-- DD_OFF at its phase (R145). -/
theorem exec_ddOff {s : State} (h : MainAt 0x34 s) :
    exec .ddOff s = .next
      (if s.pos.toNat < 4 then { s.restLines with pos := s.pos + 1 }.goto phDdOn else s.restLines.goto s.ret) :=
  mainStep_taken h.1 h.2 rfl _

/-- RENDER_NUMBER loads the masks of a legal operand (R142). -/
theorem renderNumber_of_le {v : Val14} (hv : v.toNat ≤ 9999) (showColon : Bool) (s : State) :
    renderNumber v showColon s = .next (({ s with colon := showColon }.snapValue v).goto phDdOn) :=
  if_pos hv

/-- Settles O17: a legal value's masks are its numerals, and a larger value is refused before anything is loaded. -/
theorem renderNumberShowsItsOperand : Obligations.RenderNumberShowsItsOperand := by
  intro s v showColon
  refine ⟨fun hv => ?_, fun hv => ?_⟩
  · rw [renderNumber_of_le hv, snapValue_eq _ hv]
    rfl
  · exact if_neg (Nat.not_le.2 hv)

/-- Settles O18: RN_SNAP loads the value of the time, which is legal. -/
theorem rnSnapLoadsTheTime : Obligations.RnSnapLoadsTheTime := by
  intro s hs v
  rw [exec_rnSnap hs, snapValue_eq s (timeValue_le s.hr s.min), timeValue_toNat]
  rfl

/-- The glyph mask of a character of TXT is the table's word at the character's byte (R74, R123). -/
theorem encGlyph_txtChar (c : Cfg) (txt : BitVec 32) (p : Nat) :
    encGlyph c (txtChar txt p) = Memory.read c.glyphTable (txt.toNat / 2 ^ (8 * (4 - p)) % 256) := by
  rw [encGlyph, romGlyph, txtChar, BitVec.extractLsb'_toNat, Nat.shiftRight_eq_div_pow]

/-- Settles O19: each mask is the table's word at one byte of TXT. -/
theorem rgLoadLoadsTheText : Obligations.RgLoadLoadsTheText := by
  intro s hs
  have htop : s.txt.toNat / 2 ^ 24 % 256 = s.txt.toNat / 2 ^ 24 := Nat.mod_eq_of_lt (by omega)
  rw [exec_rgLoad hs, State.loadGlyphs]
  simp only [encGlyph_txtChar, Nat.reduceSub, Nat.reduceMul, htop, pow_zero, Nat.div_one]
  rfl

/-- What position POS shows once it is lit, and which line selects it (R143). -/
theorem lightPos_eq (s : State) :
    s.lightPos = { s with segN := ~~~s.maskAt, dig := onehot4 s.pos, colonN := !s.colon } := by
  rw [State.lightPos, driveSeg_eq, driveColon_eq]

/-- A strap of sixteen bits fits WT (R27, R42). -/
theorem startWait_strap (s : State) (w : BitVec 16) : s.startWait w.toNat = { s with wt := w.setWidth 32 } := by
  rw [State.startWait, BitVec.ofNat_toNat]

/-- DD_ON at its phase, register by register (R143). -/
theorem exec_ddOn_registers {s : State} (h : MainAt 0x32 s) :
    exec .ddOn s = .next { s with
      segN := ~~~s.maskAt, dig := onehot4 s.pos, colonN := !s.colon, wt := s.cfg.dwellUs.setWidth 32, phase := 0x33 } := by
  rw [exec_ddOn h, startWait_strap, lightPos_eq]
  rfl

/-- Settles O20: POS selects the mask and the line, one case for each position. -/
theorem ddOnLightsThePosition : Obligations.DdOnLightsThePosition := by
  intro s hs
  refine ⟨⟨_, _, exec_ddOn_registers hs⟩, fun e he hpos => ?_⟩
  rw [exec_ddOn_registers hs]
  simp only [List.mem_cons, List.not_mem_nil, or_false] at he
  rcases he with rfl | rfl | rfl | rfl <;> simp only [State.maskAt, hpos] <;> rfl

/-- Settles O21: the two branches of DD_OFF. -/
theorem ddOffRestsAndMovesOn : Obligations.DdOffRestsAndMovesOn := by
  intro s hs
  refine ⟨fun hlt => ⟨s.pos + 1, by bv_omega, ?_⟩, fun hle => ?_⟩
  · rw [exec_ddOff hs, if_pos hlt]
    rfl
  · rw [exec_ddOff hs, if_neg (Nat.not_lt.2 hle)]
    rfl

/-- A step that waits for WT is taken once WT has run out, and held before (R96). -/
theorem mainStep_timed {p : Phase} {s : State} (ht : waitsForTimer p = true) (h : MainAt p s) (t : State) :
    (s.wt = 0 → mainStep p t s = .next t) ∧ (s.wt ≠ 0 → mainStep p t s = .next s) := by
  refine ⟨fun hw => mainStep_taken h.1 h.2 (by simp [phaseReady_timer ht, hw]) t, fun hw => mainStep_held ?_ t⟩
  rw [State.mainEnabled, phaseReady_timer ht, beq_eq_false_iff_ne.2 hw, Bool.and_false]

/-- Settles O22: the five steps are timed waits, each with its successor. -/
theorem timedWaitsHoldThenMoveOn : Obligations.TimedWaitsHoldThenMoveOn := by
  intro s e he hs
  simp only [List.mem_cons, List.not_mem_nil, or_false] at he
  rcases he with rfl | rfl | rfl | rfl | rfl <;> exact mainStep_timed rfl hs _

/-- The line of a position 1..4 is one of DIG's four (R94). -/
theorem onehot4_mem {p : BitVec 3} (h : 1 ≤ p.toNat ∧ p.toNat ≤ 4) :
    onehot4 p = 1 ∨ onehot4 p = 2 ∨ onehot4 p = 4 ∨ onehot4 p = 8 := by
  have hp : p = 1 ∨ p = 2 ∨ p = 3 ∨ p = 4 := by bv_omega
  rcases hp with rfl | rfl | rfl | rfl <;> simp [onehot4]

/-- Under the rest rule DIG is zero outside the lit phases and selects one position in them (R94, R149). -/
theorem DisplayOk.dig {s : State} (hs : DisplayOk s) :
    (s.dig = 0 ∨ s.dig = 1 ∨ s.dig = 2 ∨ s.dig = 4 ∨ s.dig = 8) ∧ (isLit s.phase = false ↔ s.dig = 0) := by
  obtain ⟨-, ⟨hrest, hlit⟩, hpos⟩ := hs
  cases hl : isLit s.phase with
  | false =>
    obtain ⟨-, hzero, -⟩ := hrest hl
    simp [hzero]
  | true =>
    obtain ⟨-, hdig, -⟩ := hlit hl
    rcases onehot4_mem hpos with h | h | h | h <;> simp [hdig, h]

/-- Settles O56: a step is one operation on a state with the same registers, and every operation keeps DisplayOk. -/
theorem stepsKeepTheRestRule : Obligations.StepsKeepTheRestRule := by
  intro s t hphase hlines hpos h
  obtain ⟨i, sc, ins, hi⟩ := step_next h
  have ht : DisplayOk t := exec_displayOk (s := { s with sched := sc, inputs := ins }) ⟨hphase, hlines, hpos⟩ hi
  have ⟨hp, hl, hq⟩ := ht
  exact ⟨hp, hl, hq, ht.dig⟩

end Sys2Proof.Machine
end

section
/-! SUPPORT. Runs of several steps and the output trace of one (R11): a run and its trace go on from the next state, and a state adds an
interval to the trace or lengthens the latest one. -/
namespace Sys2Proof.Machine

/-- A run goes on from the next state of its first step. -/
theorem run_succ {s t : State} (h : step s = .next t) (k : Nat) : core.run (k + 1) s = core.run k t := by
  simp only [Host.Core.run, core, h]

/-- The trace of a run goes on from the next state of its first step. -/
theorem traceFrom_succ {s t : State} (h : step s = .next t) (k : Nat) (trace : List Span) :
    traceFrom (k + 1) s trace = traceFrom k t (observe trace t) := by
  simp only [traceFrom, h]

/-- The latest interval goes on while the ports keep their value (R11). -/
theorem observe_same {s : State} {e : Span} {trace : List Span} (ho : s.outputs = e.outputs) (hn : e.stop ≤ s.now) :
    observe (e :: trace) s = { e with stop := s.now } :: trace := by
  simp only [observe, Nat.not_lt.2 hn, ho, if_false, if_true]

/-- A new interval opens where the ports change (R11). -/
theorem observe_change {s : State} {e : Span} {trace : List Span} (ho : s.outputs ≠ e.outputs) (hn : e.stop ≤ s.now) :
    observe (e :: trace) s = s.span :: { e with stop := s.now } :: trace := by
  simp only [observe, Nat.not_lt.2 hn, ho, if_false]

end Sys2Proof.Machine
end

section
/-! SUPPORT. One position of a sweep under the nominal schedule: DD_ON, one dwell of time, DD_HOLD, DD_OFF (R143 to R145). -/
namespace Sys2Proof.Machine

/-- The nominal schedule is MAIN's and the time's alone, and the next tick is more than k dwells away. -/
def Undisturbed (k : Nat) (s : State) : Prop :=
  s.sched = [] ∧ s.inputs = [] ∧ s.halt = false ∧ s.nominalIrq = none ∧ s.cfg.dwellUs ≠ 0 ∧
    s.tcnt.toNat + k * s.cfg.dwellUs.toNat < s.cfg.periodUs

/-- DD_ON's effect (R143). -/
def State.lightOn (s : State) : State := (s.lightPos.startWait s.cfg.dwellUs.toNat).goto phDdHold

/-- One dwell of time that stays below the tick boundary (R321). -/
def State.passDwell (s : State) : State :=
  { s.passTime s.cfg.dwellUs.toNat with tcnt := BitVec.ofNat 28 (s.tcnt.toNat + s.cfg.dwellUs.toNat) }

/-- DD_OFF's effect, field by field (R145). -/
def State.lightOff (s : State) : State :=
  { s.restLines with
    pos := if s.pos.toNat < 4 then s.pos + 1 else s.pos, phase := if s.pos.toNat < 4 then phDdOn else s.ret }

/-- The four steps of one position, from DD_ON on. -/
def State.showPosition (s : State) : State := (s.lightOn.passDwell.goto phDdOff).lightOff

/-- The registers of a state that no step of a sweep writes from DD_ON on. -/
structure Kept where
  cfg : Cfg
  sched : List TraceWord
  inputs : List (Nat × InputEvent)
  halt : Bool
  ip : BitVec 3
  tickMask : Bool
  masks : Mask × Mask × Mask × Mask
  colon : Bool
  led : Bool
  ret : Phase

/-- What a state holds in these registers. -/
def State.kept (s : State) : Kept :=
  ⟨s.cfg, s.sched, s.inputs, s.halt, s.ip, s.tickMask, (s.m1, s.m2, s.m3, s.m4), s.colon, s.led, s.ret⟩

theorem goto_kept (s : State) (p : Phase) : (s.goto p).kept = s.kept := rfl

theorem lightOn_kept (s : State) : s.lightOn.kept = s.kept := rfl

theorem passDwell_kept (s : State) : s.passDwell.kept = s.kept := rfl

theorem lightOff_kept (s : State) : s.lightOff.kept = s.kept := rfl

/-- The four steps of a position write none of them. -/
theorem showPosition_kept (s : State) : s.showPosition.kept = s.kept := by
  rw [State.showPosition, lightOff_kept, goto_kept, passDwell_kept, lightOn_kept]

/-- The nominal handler is read off IP and TICK_MASK (R37, R48). -/
theorem nominalIrq_congr {s t : State} (hip : t.ip = s.ip) (hmask : t.tickMask = s.tickMask) :
    t.nominalIrq = s.nominalIrq := by
  have henabled : ∀ n, t.irqEnabled n = s.irqEnabled n := fun n => by
    rw [State.irqEnabled, State.irqEnabled, State.pending, State.pending, hip, hmask]
  simp only [State.nominalIrq, henabled]

/-- The schedule stays undisturbed while these registers stand and the tick is far enough off. -/
theorem Undisturbed.of_kept {j k : Nat} {s t : State} (hs : Undisturbed k s) (hkept : t.kept = s.kept)
    (htick : t.tcnt.toNat + j * s.cfg.dwellUs.toNat < s.cfg.periodUs) : Undisturbed j t := by
  simp only [State.kept, Kept.mk.injEq] at hkept
  obtain ⟨hcfg, hsched, hinputs, hhalt, hip, hmask, -⟩ := hkept
  rw [Undisturbed, hcfg, hsched, hinputs, hhalt, nominalIrq_congr hip hmask]
  obtain ⟨sched, inputs, halt, irq, dwell, -⟩ := hs
  exact ⟨sched, inputs, halt, irq, dwell, htick⟩

/-- DD_OFF at its phase has this effect. -/
theorem exec_ddOff_eq_lightOff {s : State} (h : MainAt 0x34 s) : exec .ddOff s = .next s.lightOff := by
  rw [exec_ddOff h, State.lightOff]
  split_ifs <;> rfl

/-- Undisturbed, a ready MAIN takes the step of its phase (R7). -/
theorem step_of_ready {k : Nat} {s : State} {i : Instr} (hs : Undisturbed k s) (hi : mainInstr s.phase = some i)
    (hr : s.phaseReady s.phase = true) : step s = exec i s := by
  obtain ⟨hsched, hinputs, hrun, hirq, -, -⟩ := hs
  have hmain := (mainEnabled_iff s s.phase).2 ⟨hrun, rfl, hr⟩
  exact step_of_nominalInner hsched (by simp [hinputs]) (nominalInner_of_main hirq hmain hi)

/-- Undisturbed, DD_ON is taken (R143). -/
theorem step_ddOn {k : Nat} {s : State} (hs : Undisturbed k s) (hp : s.phase = phDdOn) : step s = .next s.lightOn := by
  have hready : s.phaseReady s.phase = true := by rw [hp]; rfl
  rw [step_of_ready hs (i := .ddOn) (by rw [hp]; rfl) hready]
  obtain ⟨-, -, hrun, -⟩ := hs
  exact exec_ddOn ⟨hrun, hp⟩

/-- Undisturbed, DD_HOLD is taken once WT has run out (R144). -/
theorem step_ddHold {k : Nat} {s : State} (hs : Undisturbed k s) (hp : s.phase = phDdHold) (hw : s.wt = 0) :
    step s = .next (s.goto phDdOff) := by
  have hready : s.phaseReady s.phase = true := by rw [hp, phaseReady_timer rfl, hw]; rfl
  rw [step_of_ready hs (i := .ddHold) (by rw [hp]; rfl) hready]
  obtain ⟨-, -, hrun, -⟩ := hs
  exact (mainStep_timed rfl ⟨hrun, hp⟩ _).1 hw

/-- Undisturbed, DD_OFF is taken (R145). -/
theorem step_ddOff {k : Nat} {s : State} (hs : Undisturbed k s) (hp : s.phase = phDdOff) : step s = .next s.lightOff := by
  have hready : s.phaseReady s.phase = true := by rw [hp]; rfl
  rw [step_of_ready hs (i := .ddOff) (by rw [hp]; rfl) hready]
  obtain ⟨-, -, hrun, -⟩ := hs
  exact exec_ddOff_eq_lightOff ⟨hrun, hp⟩

/-- The wait DD_ON starts is one dwell (R143). -/
theorem lightOn_wt (s : State) : s.lightOn.wt.toNat = s.cfg.dwellUs.toNat := by
  have hdwell := s.cfg.dwellUs.isLt
  have hwt : s.lightOn.wt = BitVec.ofNat 32 s.cfg.dwellUs.toNat := rfl
  rw [hwt, BitVec.toNat_ofNat]
  omega

/-- One dwell later the wait has run out (R27). -/
theorem lightOn_passDwell_wt (s : State) : s.lightOn.passDwell.wt = 0 := by
  have hwt : s.lightOn.passDwell.wt = BitVec.ofNat 32 (s.lightOn.wt.toNat - s.cfg.dwellUs.toNat) := rfl
  rw [hwt, lightOn_wt, Nat.sub_self]
  rfl

/-- A dwell is a positive time (R42). -/
theorem Undisturbed.dwell_pos {k : Nat} {s : State} (hs : Undisturbed k s) : 1 ≤ s.cfg.dwellUs.toNat := by
  obtain ⟨-, -, -, -, hdwell, -⟩ := hs
  bv_omega

/-- The tick lies beyond the next dwell. -/
theorem Undisturbed.tick_beyond {k : Nat} {s : State} (hs : Undisturbed (k + 1) s) :
    s.tcnt.toNat + s.cfg.dwellUs.toNat + k * s.cfg.dwellUs.toNat < s.cfg.periodUs := by
  obtain ⟨-, -, -, -, -, htick⟩ := hs
  rwa [Nat.succ_mul, ← Nat.add_assoc, Nat.add_right_comm] at htick

/-- DD_ON leaves the schedule undisturbed (R143). -/
theorem Undisturbed.lightOn {k : Nat} {s : State} (hs : Undisturbed k s) : Undisturbed k s.lightOn := by
  refine hs.of_kept (lightOn_kept s) ?_
  obtain ⟨-, -, -, -, -, htick⟩ := hs
  exact htick

/-- A dwell later the schedule is as undisturbed, with one dwell less to the tick. -/
theorem Undisturbed.passDwell {k : Nat} {s : State} (hs : Undisturbed (k + 1) s) : Undisturbed k s.passDwell := by
  have htick := hs.tick_beyond
  have hfit := periodUs_lt s.cfg
  have htcnt : s.passDwell.tcnt = BitVec.ofNat 28 (s.tcnt.toNat + s.cfg.dwellUs.toNat) := rfl
  refine hs.of_kept (passDwell_kept s) ?_
  rwa [htcnt, BitVec.toNat_ofNat, Nat.mod_eq_of_lt (by omega)]

/-- A control transfer leaves the schedule undisturbed. -/
theorem Undisturbed.goto {k : Nat} {s : State} (hs : Undisturbed k s) (p : Phase) : Undisturbed k (s.goto p) := by
  refine hs.of_kept (goto_kept s p) ?_
  obtain ⟨-, -, -, -, -, htick⟩ := hs
  exact htick

/-- DD_OFF leaves the schedule undisturbed (R145). -/
theorem Undisturbed.lightOff {k : Nat} {s : State} (hs : Undisturbed k s) : Undisturbed k s.lightOff := by
  refine hs.of_kept (lightOff_kept s) ?_
  obtain ⟨-, -, -, -, -, htick⟩ := hs
  exact htick

/-- While MAIN waits for one dwell and the tick is beyond it, ENV advances by exactly the dwell (R7). -/
theorem nominalDt_dwell {k : Nat} {s : State} (hs : Undisturbed (k + 1) s) (hp : s.phase = phDdHold)
    (hw : s.wt.toNat = s.cfg.dwellUs.toNat) : s.nominalDt = s.cfg.dwellUs.toNat := by
  have hpos := hs.dwell_pos
  have htick := hs.tick_beyond
  obtain ⟨-, hinputs, hrun, -, -, -⟩ := hs
  have hwait : s.waitLeft = some s.cfg.dwellUs.toNat := by
    rw [waitLeft_of_timer hrun (by rw [hp]; rfl) (by bv_omega), hw]
  have hinput : s.inputLeft = none := by simp [State.inputLeft, hinputs]
  simp only [State.nominalDt, hwait, hinput, atMost]
  exact Nat.min_eq_left (by omega)

/-- ADVANCE by one dwell that stays below the tick boundary (R321). -/
theorem exec_advance_dwell {k : Nat} {s : State} (hs : Undisturbed (k + 1) s) :
    exec (.advance s.cfg.dwellUs.toNat) s = .next s.passDwell := by
  have hpos := hs.dwell_pos
  have htick := hs.tick_beyond
  have henabled : s.advanceEnabled s.cfg.dwellUs.toNat = true := (advanceEnabled_iff _ _).2 ⟨hpos, by omega⟩
  have hbelow : s.tcnt.toNat + s.cfg.dwellUs.toNat ≠ s.cfg.periodUs := by omega
  calc exec (.advance s.cfg.dwellUs.toNat) s
      = takeWhen (s.advanceEnabled s.cfg.dwellUs.toNat) (s.advanceBy s.cfg.dwellUs.toNat) s := rfl
    _ = .next s.passDwell := by
        rw [takeWhen_eq_next, henabled, if_pos rfl, State.advanceBy, if_neg hbelow, State.passDwell]

/-- Undisturbed, the nominal schedule lets the dwell of DD_HOLD pass in one ADVANCE (R7, R144). -/
theorem step_dwell {k : Nat} {s : State} (hs : Undisturbed (k + 1) s) (hp : s.phase = phDdHold)
    (hw : s.wt.toNat = s.cfg.dwellUs.toNat) : step s = .next s.passDwell := by
  have hpos := hs.dwell_pos
  have hdt := nominalDt_dwell hs hp hw
  have hexec := exec_advance_dwell hs
  obtain ⟨hsched, hinputs, -, hirq, -, -⟩ := hs
  have hheld : s.mainEnabled s.phase = false := by
    have hwt : (s.wt == 0) = false := beq_eq_false_iff_ne.2 (by bv_omega)
    rw [State.mainEnabled, phaseReady_timer (by rw [hp]; rfl), hwt, Bool.and_false]
  have hinner := nominalInner_of_time hirq hheld (by omega)
  rw [step_of_nominalInner hsched (by simp [hinputs]) hinner, hdt, hexec]

/-- The four steps of a position (R146). -/
theorem steps_of_position {k : Nat} {s : State} (hs : Undisturbed (k + 1) s) (hp : s.phase = phDdOn) :
    step s = .next s.lightOn ∧ step s.lightOn = .next s.lightOn.passDwell ∧
      step s.lightOn.passDwell = .next (s.lightOn.passDwell.goto phDdOff) ∧
      step (s.lightOn.passDwell.goto phDdOff) = .next s.showPosition :=
  ⟨step_ddOn hs hp, step_dwell hs.lightOn rfl (lightOn_wt s), step_ddHold hs.lightOn.passDwell rfl (lightOn_passDwell_wt s),
    step_ddOff (hs.lightOn.passDwell.goto _) rfl⟩

/-- After a position the schedule is as undisturbed, with one dwell less to the tick. -/
theorem Undisturbed.showPosition {k : Nat} {s : State} (hs : Undisturbed (k + 1) s) : Undisturbed k s.showPosition :=
  (hs.lightOn.passDwell.goto _).lightOff

/-- A position takes one dwell (R146). -/
theorem showPosition_now (s : State) : s.showPosition.now = s.now + s.cfg.dwellUs.toNat := rfl

/-- After a position every line is at rest (R145). -/
theorem showPosition_atRest (s : State) : AtRest s.showPosition := ⟨rfl, rfl, rfl⟩

/-- The ports of a display at rest (R11). -/
theorem outputs_of_atRest {s : State} (hs : AtRest s) : s.outputs = restOutputs s.led := by
  obtain ⟨hseg, hdig, hcolon⟩ := hs
  simp only [State.outputs, hseg, hdig, hcolon]
  rfl

/-- A run through a position. -/
theorem run_position {k : Nat} {s : State} (hs : Undisturbed (k + 1) s) (hp : s.phase = phDdOn) (j : Nat) :
    core.run (j + 4) s = core.run j s.showPosition := by
  obtain ⟨hon, hdwell, hhold, hoff⟩ := steps_of_position hs hp
  rw [run_succ hon, run_succ hdwell, run_succ hhold, run_succ hoff]

/-- The trace of a position entered at rest: the lines at rest to its start, lit for one dwell, at rest again (R11, R146). -/
theorem traceFrom_position {k : Nat} {s : State} (hs : Undisturbed (k + 1) s) (hp : s.phase = phDdOn) (hrest : AtRest s)
    (hsel : onehot4 s.pos ≠ 0) (j : Nat) (trace : List Span) :
    traceFrom (j + 4) s (s.span :: trace) = traceFrom j s.showPosition
      (s.showPosition.span :: ⟨s.lightOn.outputs, s.now, s.now + s.cfg.dwellUs.toNat⟩ :: s.span :: trace) := by
  obtain ⟨hon, hdwell, hhold, hoff⟩ := steps_of_position hs hp
  obtain ⟨-, hdig, -⟩ := hrest
  have hlit : s.lightOn.outputs ≠ s.span.outputs := fun h => hsel ((congrArg Outputs.dig h).trans hdig)
  have hdark : s.showPosition.outputs ≠ s.lightOn.outputs := fun h => hsel (congrArg Outputs.dig h).symm
  rw [traceFrom_succ hon, traceFrom_succ hdwell, traceFrom_succ hhold, traceFrom_succ hoff,
    observe_change hlit (Nat.le_refl _), observe_same (s := s.lightOn.passDwell) rfl (Nat.le_add_right _ _),
    observe_same (s := s.lightOn.passDwell.goto phDdOff) rfl (Nat.le_refl _), observe_change hdark (Nat.le_refl _)]
  rfl

end Sys2Proof.Machine
end

section
/-! SUPPORT. A sweep under the nominal schedule, one position after another (R141, R146, R150). -/
namespace Sys2Proof.Machine

/-- The state k positions into the sweep that starts at DD_ON in u. -/
def sweepAt (u : State) : Nat → State
  | 0 => u
  | k + 1 => (sweepAt u k).showPosition

/-- The output trace of k positions of the sweep, the latest interval first. -/
def sweepTrace (u : State) : Nat → List Span
  | 0 => [u.span]
  | k + 1 => (sweepAt u (k + 1)).span ::
      ⟨(sweepAt u k).lightOn.outputs, (sweepAt u k).now, (sweepAt u k).now + (sweepAt u k).cfg.dwellUs.toNat⟩ :: sweepTrace u k

/-- A sweep that is about to light position 1, undisturbed for its four dwells. -/
def AtSweepStart (u : State) : Prop := Undisturbed 4 u ∧ u.phase = phDdOn ∧ u.pos = 1

/-- A sweep writes none of the registers its steps keep. -/
theorem sweepAt_kept (u : State) (k : Nat) : (sweepAt u k).kept = u.kept := by
  induction k with
  | zero => rfl
  | succ k ih => rw [sweepAt, showPosition_kept, ih]

/-- A sweep leaves CFG unchanged. -/
theorem sweepAt_cfg (u : State) (k : Nat) : (sweepAt u k).cfg = u.cfg := congrArg Kept.cfg (sweepAt_kept u k)

/-- A sweep leaves the LED unchanged. -/
theorem sweepAt_led (u : State) (k : Nat) : (sweepAt u k).led = u.led := congrArg Kept.led (sweepAt_kept u k)

/-- A sweep leaves RET unchanged. -/
theorem sweepAt_ret (u : State) (k : Nat) : (sweepAt u k).ret = u.ret := congrArg Kept.ret (sweepAt_kept u k)

/-- A sweep takes one dwell for each position (R146). -/
theorem sweepAt_now (u : State) (k : Nat) : (sweepAt u k).now = u.now + k * u.cfg.dwellUs.toNat := by
  induction k with
  | zero => simp [sweepAt]
  | succ k ih => rw [sweepAt, showPosition_now, ih, sweepAt_cfg, Nat.succ_mul, Nat.add_assoc]

/-- Each position is dark again one dwell after it was lit. -/
theorem sweepAt_stop (u : State) (k : Nat) :
    (sweepAt u k).now + (sweepAt u k).cfg.dwellUs.toNat = u.now + (k + 1) * u.cfg.dwellUs.toNat :=
  (showPosition_now _).symm.trans (sweepAt_now u (k + 1))

/-- Before position 4 DD_OFF goes on to the next position (R145). -/
theorem lightOff_next {s : State} (h : s.pos.toNat < 4) : s.lightOff.phase = phDdOn ∧ s.lightOff.pos = s.pos + 1 :=
  ⟨if_pos h, if_pos h⟩

/-- From position 4 DD_OFF returns through RET (R145). -/
theorem lightOff_return {s : State} (h : ¬ s.pos.toNat < 4) : s.lightOff.phase = s.ret := if_neg h

theorem lightOn_pos (s : State) : s.lightOn.pos = s.pos := rfl

theorem lightOn_now (s : State) : s.lightOn.now = s.now := rfl

theorem lightOn_maskAt (s : State) : s.lightOn.maskAt = s.maskAt := rfl

theorem passDwell_pos (s : State) : s.passDwell.pos = s.pos := rfl

/-- DD_OFF finds the position that DD_ON lit. -/
theorem pos_at_ddOff (s : State) : (s.lightOn.passDwell.goto phDdOff).pos = s.pos := by
  rw [State.goto_pos, passDwell_pos, lightOn_pos]

theorem lightOn_ret (s : State) : s.lightOn.ret = s.ret := rfl

theorem passDwell_ret (s : State) : s.passDwell.ret = s.ret := rfl

/-- DD_OFF finds the RET that the sweep was entered with. -/
theorem ret_at_ddOff (s : State) : (s.lightOn.passDwell.goto phDdOff).ret = s.ret := by
  rw [State.goto_ret, passDwell_ret, lightOn_ret]

/-- k positions into the sweep MAIN is at DD_ON of position k + 1, with a dwell to go for each position left. -/
theorem sweepAt_position {u : State} (hu : AtSweepStart u) {k : Nat} (hk : k < 4) :
    Undisturbed (3 - k + 1) (sweepAt u k) ∧ (sweepAt u k).phase = phDdOn ∧ (sweepAt u k).pos = BitVec.ofNat 3 (k + 1) := by
  induction k with
  | zero => exact hu
  | succ k ih =>
    obtain ⟨hquiet, -, hpos⟩ := ih (by omega)
    have hlt : ((sweepAt u k).lightOn.passDwell.goto phDdOff).pos.toNat < 4 := by
      rw [pos_at_ddOff, hpos, BitVec.toNat_ofNat]
      omega
    obtain ⟨hphase, hnext⟩ := lightOff_next hlt
    refine ⟨?_, hphase, ?_⟩
    · rw [show 3 - k + 1 = 3 - (k + 1) + 1 + 1 by omega] at hquiet
      exact hquiet.showPosition
    · rw [sweepAt, State.showPosition, hnext, pos_at_ddOff, hpos]
      exact (BitVec.ofNat_add _ _).symm

/-- A run through k positions. -/
theorem run_sweepAt {u : State} (hu : AtSweepStart u) {k : Nat} (hk : k ≤ 4) (j : Nat) :
    core.run (j + 4 * k) u = core.run j (sweepAt u k) := by
  induction k generalizing j with
  | zero => rfl
  | succ k ih =>
    obtain ⟨hquiet, hphase, -⟩ := sweepAt_position hu (by omega : k < 4)
    rw [show j + 4 * (k + 1) = j + 4 + 4 * k by omega, ih (by omega), run_position hquiet hphase]
    rfl

/-- The position k + 1 is selected by bit k of DIG (R94). -/
theorem onehot4_succ : ∀ k < 4, onehot4 (BitVec.ofNat 3 (k + 1)) = BitVec.ofNat 4 (2 ^ k) ∧ BitVec.ofNat 4 (2 ^ k) ≠ 0 := by
  decide

/-- A sweep entered at rest is at rest between its positions (R145). -/
theorem sweepAt_atRest {u : State} (hu : AtRest u) (k : Nat) : AtRest (sweepAt u k) := by
  cases k with
  | zero => exact hu
  | succ k => exact showPosition_atRest _

/-- The trace of a run through k positions, entered at rest (R11, R146). -/
theorem traceFrom_sweepAt {u : State} (hu : AtSweepStart u) (hrest : AtRest u) {k : Nat} (hk : k ≤ 4) (j : Nat) :
    traceFrom (j + 4 * k) u [u.span] = traceFrom j (sweepAt u k) (sweepTrace u k) := by
  induction k generalizing j with
  | zero => rfl
  | succ k ih =>
    obtain ⟨hquiet, hphase, hpos⟩ := sweepAt_position hu (by omega : k < 4)
    obtain ⟨hline, hne⟩ := onehot4_succ k (by omega)
    have hsel : onehot4 (sweepAt u k).pos ≠ 0 := by rwa [hpos, hline]
    have hhead : ∃ trace, sweepTrace u k = (sweepAt u k).span :: trace := by cases k <;> exact ⟨_, rfl⟩
    obtain ⟨trace, htrace⟩ := hhead
    rw [show j + 4 * (k + 1) = j + 4 + 4 * k by omega, ih (by omega), htrace,
      traceFrom_position hquiet hphase (sweepAt_atRest hrest k) hsel, ← htrace]
    rfl

/-- The ports while position p shows a mask (R143). -/
def litOutputs (colon led : Bool) (m : Mask) (p : Nat) : Outputs := ⟨~~~m, BitVec.ofNat 4 (2 ^ (p - 1)), !colon, led⟩

/-- After its DD_ON position k + 1 shows its mask, and the colon if the sweep shows it (R143). -/
theorem lightOn_outputs {u : State} (hu : AtSweepStart u) {k : Nat} (hk : k < 4) :
    (sweepAt u k).lightOn.outputs = litOutputs u.colon u.led (sweepAt u k).maskAt (k + 1) := by
  obtain ⟨-, -, hpos⟩ := sweepAt_position hu hk
  obtain ⟨hline, -⟩ := onehot4_succ k hk
  have hports : (sweepAt u k).lightOn.outputs = ⟨driveSeg (sweepAt u k).maskAt, onehot4 (sweepAt u k).pos,
    driveColon (sweepAt u k).colon, (sweepAt u k).led⟩ := rfl
  rw [hports, driveSeg_eq, driveColon_eq, hpos, hline, sweepAt_led,
    show (sweepAt u k).colon = u.colon from congrArg Kept.colon (sweepAt_kept u k)]
  rfl

/-- Between positions, and before the first if entered so, the ports are at rest (R145). -/
theorem sweepAt_span {u : State} (hu : AtRest u) (k : Nat) :
    (sweepAt u k).span =
      ⟨restOutputs u.led, u.now + k * u.cfg.dwellUs.toNat, u.now + k * u.cfg.dwellUs.toNat⟩ := by
  rw [State.span, outputs_of_atRest (sweepAt_atRest hu k), sweepAt_led, sweepAt_now]

end Sys2Proof.Machine
end

section
/-! SUPPORT. The whole sweep: the step that loads its masks, its four positions, and what an observer sees of it (R11, R146). -/
namespace Sys2Proof.Machine

/-- What the step that enters a sweep leaves as it found it; the colon is the one of RENDER_NUMBER, dark for RENDER_GLYPHS
(R141, R150). -/
def EntersSweep (s u : State) : Prop :=
  AtSweepStart u ∧ u.outputs = s.outputs ∧ u.now = s.now ∧ u.cfg = s.cfg ∧ u.ret = s.ret ∧
    u.colon = (s.colon && s.phase == 0x30)

/-- Undisturbed, RN_SNAP or RG_LOAD enters the sweep and takes no time. -/
theorem step_into_sweep {s : State} (hat : MainAt 0x30 s ∨ MainAt 0x31 s) (hs : Undisturbed 4 s) :
    ∃ u, step s = .next u ∧ EntersSweep s u := by
  rcases hat with ⟨hh, hp⟩ | ⟨hh, hp⟩
  · have hready : s.phaseReady s.phase = true := by rw [hp]; rfl
    refine ⟨_, (step_of_ready hs (i := .rnSnap) (by rw [hp]; rfl) hready).trans (exec_rnSnap ⟨hh, hp⟩),
      ⟨hs, rfl, rfl⟩, rfl, rfl, rfl, rfl, ?_⟩
    simp [State.snapValue, hp]
  · have hready : s.phaseReady s.phase = true := by rw [hp]; rfl
    refine ⟨_, (step_of_ready hs (i := .rgLoad) (by rw [hp]; rfl) hready).trans (exec_rgLoad ⟨hh, hp⟩),
      ⟨hs, rfl, rfl⟩, rfl, rfl, rfl, rfl, ?_⟩
    simp [State.loadGlyphs, hp]

/-- A sweep leaves the masks it was loaded with unchanged. -/
theorem sweepAt_masks (u : State) (k : Nat) :
    (sweepAt u k).m1 = u.m1 ∧ (sweepAt u k).m2 = u.m2 ∧ (sweepAt u k).m3 = u.m3 ∧ (sweepAt u k).m4 = u.m4 := by
  simpa only [State.kept, Prod.mk.injEq] using congrArg Kept.masks (sweepAt_kept u k)

/-- What a position of a sweep shows is read from the masks it was loaded with. -/
theorem sweepAt_maskAt {u : State} (hu : AtSweepStart u) {k : Nat} (hk : k < 4) :
    (sweepAt u k).maskAt = { u with pos := BitVec.ofNat 3 (k + 1) }.maskAt := by
  obtain ⟨-, -, hpos⟩ := sweepAt_position hu hk
  obtain ⟨h1, h2, h3, h4⟩ := sweepAt_masks u k
  simp only [State.maskAt, hpos, h1, h2, h3, h4]

/-- The four positions of a sweep show the four masks from left to right (R24, R143). -/
theorem sweepAt_maskAt_positions {u : State} (hu : AtSweepStart u) :
    (sweepAt u 0).maskAt = u.m1 ∧ (sweepAt u 1).maskAt = u.m2 ∧ (sweepAt u 2).maskAt = u.m3 ∧ (sweepAt u 3).maskAt = u.m4 :=
  ⟨sweepAt_maskAt hu (by decide), sweepAt_maskAt hu (by decide), sweepAt_maskAt hu (by decide), sweepAt_maskAt hu (by decide)⟩

/-- The output trace of four masks, each lit for d microseconds from time n on, the latest interval first (R11, R146). -/
def fourDwells (rest : Outputs) (lit : Mask → Nat → Outputs) (a b c e : Mask) (n d : Nat) : List Span :=
  [⟨rest, n + 4 * d, n + 4 * d⟩, ⟨lit e 4, n + 3 * d, n + 4 * d⟩, ⟨rest, n + 3 * d, n + 3 * d⟩,
   ⟨lit c 3, n + 2 * d, n + 3 * d⟩, ⟨rest, n + 2 * d, n + 2 * d⟩, ⟨lit b 2, n + d, n + 2 * d⟩,
   ⟨rest, n + d, n + d⟩, ⟨lit a 1, n, n + d⟩, ⟨rest, n, n⟩]

/-- In that trace each position is lit for one dwell of four (R11). -/
theorem dutyCycle_fourDwells (colon led : Bool) (a b c e : Mask) (n d : Nat) :
    ∀ p ∈ ([1, 2, 3, 4] : List Nat),
      dutyCycle p (fourDwells (restOutputs led) (litOutputs colon led) a b c e n d) = (d, 4 * d) := by
  have helapsed : elapsedTime (fourDwells (restOutputs led) (litOutputs colon led) a b c e n d) = 4 * d := by
    simp only [elapsedTime, fourDwells, Span.length, List.map_cons, List.map_nil, List.sum_cons, List.sum_nil]
    omega
  have hrest (p : Nat) : (restOutputs led).lit p = false := by simp [Outputs.lit, restOutputs]
  have hlit : ∀ (m : Mask), ∀ p ∈ ([1, 2, 3, 4] : List Nat), ∀ q ∈ ([1, 2, 3, 4] : List Nat),
      (litOutputs colon led m q).lit p = (q == p) := fun _ => by
    simp only [Outputs.lit, litOutputs]
    decide
  intro p hp
  have hlitTime : litTime p (fourDwells (restOutputs led) (litOutputs colon led) a b c e n d) = d := by
    simp only [litTime, timeWhere, fourDwells, List.filter_cons, List.filter_nil, hrest, hlit _ p hp 1 (by decide),
      hlit _ p hp 2 (by decide), hlit _ p hp 3 (by decide), hlit _ p hp 4 (by decide)]
    simp only [List.mem_cons, List.not_mem_nil, or_false] at hp
    rcases hp with rfl | rfl | rfl | rfl <;> simp [elapsedTime, Span.length] <;> omega
  rw [dutyCycle, hlitTime, helapsed]

/-- The trace of a sweep entered at rest is that of its four masks. -/
theorem sweepTrace_eq_fourDwells {u : State} (hu : AtSweepStart u) (hrest : AtRest u) :
    sweepTrace u 4 = fourDwells (restOutputs u.led) (litOutputs u.colon u.led) u.m1 u.m2 u.m3 u.m4 u.now
      u.cfg.dwellUs.toNat := by
  obtain ⟨h1, h2, h3, h4⟩ := sweepAt_maskAt_positions hu
  have hstart : u.span = ⟨restOutputs u.led, u.now, u.now⟩ := by simpa [sweepAt] using sweepAt_span hrest 0
  simp only [sweepTrace, sweepAt_stop, sweepAt_span hrest]
  simp only [hstart, sweepAt_now, fourDwells,
    lightOn_outputs hu (by decide : 0 < 4), lightOn_outputs hu (by decide : 1 < 4), lightOn_outputs hu (by decide : 2 < 4),
    lightOn_outputs hu (by decide : 3 < 4), h1, h2, h3, h4, Nat.zero_mul, Nat.add_zero, Nat.zero_add, Nat.one_mul, Nat.reduceAdd]

/-- After position 4 a sweep has returned through RET (R145). -/
theorem sweepAt_four_phase {u : State} (hu : AtSweepStart u) : (sweepAt u 4).phase = u.ret := by
  obtain ⟨-, -, hpos⟩ := sweepAt_position hu (k := 3) (by decide)
  have hlast : ¬ ((sweepAt u 3).lightOn.passDwell.goto phDdOff).pos.toNat < 4 := by
    rw [pos_at_ddOff, hpos]
    decide
  rw [sweepAt, State.showPosition, lightOff_return hlast, ret_at_ddOff, sweepAt_ret]

/-- Two steps past k positions, position k + 1 is lit (R143). -/
theorem run_to_lit {s u : State} (hstep : step s = .next u) (hu : AtSweepStart u) {k : Nat} (hk : k < 4) :
    core.run (4 * k + 2) s = .next (sweepAt u k).lightOn := by
  obtain ⟨hquiet, hphase, -⟩ := sweepAt_position hu hk
  rw [run_succ hstep, Nat.add_comm, run_sweepAt hu hk.le, run_succ (step_ddOn hquiet hphase)]
  rfl

/-- The loading step and the steps of k positions. -/
theorem run_to_dark {s u : State} (hstep : step s = .next u) (hu : AtSweepStart u) {k : Nat} (hk : k ≤ 4) :
    core.run (4 * k + 1) s = .next (sweepAt u k) := by
  rw [run_succ hstep, ← Nat.zero_add (4 * k), run_sweepAt hu hk]
  rfl

/-- The output trace of a sweep from its loading step on, entered at rest (R11, R146). -/
theorem outputTrace_sweep {s u : State} (hstep : step s = .next u) (hu : EntersSweep s u) (hrest : AtRest s) :
    outputTrace 17 s = fourDwells (restOutputs u.led) (litOutputs u.colon u.led) u.m1 u.m2 u.m3 u.m4 u.now
      u.cfg.dwellUs.toNat := by
  obtain ⟨hstart, hports, hnow, -⟩ := hu
  have hurest : AtRest u := by
    obtain ⟨hseg, hdig, hcolon⟩ := hrest
    simp only [State.outputs, Outputs.mk.injEq] at hports
    obtain ⟨hseg', hdig', hcolon', -⟩ := hports
    exact ⟨hseg'.trans hseg, hdig'.trans hdig, hcolon'.trans hcolon⟩
  have hload : observe [s.span] u = [u.span] := by
    rw [observe_same hports hnow.ge]
    simp only [State.span, hports, hnow]
  rw [outputTrace, traceFrom_succ hstep, hload, traceFrom_sweepAt hstart hurest (k := 4) (by decide) 0,
    ← sweepTrace_eq_fourDwells hstart hurest]
  rfl

/-- Settles O24: the loading step takes no time and each position one dwell; the runs and the trace are those of the four positions. -/
theorem sweepLastsFourDwells : Obligations.SweepLastsFourDwells := by
  intro s hat hsched hinputs hdwell h0 h1 h2 htick _ d n lit rest
  have hhalt : s.halt = false := by rcases hat with ⟨hh, -⟩ | ⟨hh, -⟩ <;> exact hh
  obtain ⟨u, hstep, henter⟩ :=
    step_into_sweep hat ⟨hsched, hinputs, hhalt, nominalIrq_none h0 h1 h2, hdwell, htick⟩
  have ⟨hu, hports, hnow, hcfg, hret, hcolon⟩ := henter
  have hled : u.led = s.led := congrArg Outputs.ledOut hports
  have hlit : lit = litOutputs u.colon u.led := by
    rw [hcolon, hled]
    rfl
  have hrest : rest = restOutputs u.led := by
    rw [hled]
    rfl
  have hnowAt (k : Nat) : (sweepAt u k).now = n + k * d := by rw [sweepAt_now, hnow, hcfg]
  rw [hlit, hrest]
  refine ⟨⟨sweepAt u 4, run_to_dark hstep hu (Nat.le_refl 4), hnowAt 4, (sweepAt_four_phase hu).trans hret,
    showPosition_atRest _, (sweepAt_led u 4).trans hled, fun hs => ?_⟩, fun p hp => ?_⟩
  · obtain ⟨h1, h2, h3, h4⟩ := sweepAt_masks u 4
    rw [outputTrace_sweep hstep henter hs, h1, h2, h3, h4, hnow, hcfg]
    exact ⟨rfl, dutyCycle_fourDwells _ _ _ _ _ _ _ _⟩
  · obtain ⟨k, hk, rfl⟩ : ∃ k < 4, p = k + 1 := by
      simp only [List.mem_cons, List.not_mem_nil, or_false] at hp
      exact ⟨p - 1, by omega, by omega⟩
    obtain ⟨-, -, hpos⟩ := sweepAt_position hu hk
    refine ⟨(sweepAt u k).lightOn, sweepAt u (k + 1), run_to_lit hstep hu hk, ?_, ?_, ?_, run_to_dark hstep hu hk, hnowAt _, ?_⟩
    · rw [lightOn_now, hnowAt, Nat.add_sub_cancel]
    · rw [lightOn_pos, hpos, BitVec.toNat_ofNat]
      omega
    · rw [lightOn_maskAt, lightOn_outputs hu hk]
    · rw [outputs_of_atRest (s := sweepAt u (k + 1)) (showPosition_atRest _), sweepAt_led]

end Sys2Proof.Machine
end

section
/-! SUPPORT. The Clock Engine's functions (R170 to R180): NORMALIZE answers the one time of day that stands for its operand's seconds
modulo the hour cycle, and the transitions as steps. -/
namespace Sys2Proof.Machine

/-- Settles O6: the range is the one in which a time is a time of day. -/
theorem normalizeResultInRange : Obligations.NormalizeResultInRange := by
  intro t mode12
  obtain ⟨hsec, hmin, hhr⟩ := (timeOfDayOk_iff _ _).1 (timeOfDayOk_normalize t mode12)
  exact ⟨hsec, hmin, fun h => by rwa [if_pos h] at hhr, fun h => by rwa [if_neg (by simp [h])] at hhr⟩

/-- HWRAP moves the hours by whole hour cycles (R171, R174). -/
theorem hwrap_seconds_modEq (h : Nat) (mode12 : Bool) :
    hwrap h mode12 * 3600 ≡ h * 3600 [MOD cycleSeconds mode12] := by
  cases mode12 with
  | true =>
    have hhour : (h + 11) % 12 + 1 ≡ h [MOD 12] := by
      rw [Nat.ModEq]
      omega
    exact hhour.mul_right' 3600
  | false => exact (Nat.mod_modEq h 24).mul_right' 3600

/-- Carrying seconds into minutes and minutes into hours keeps the seconds a time stands for (R170). -/
theorem secondsOf_carry (s m h : Nat) :
    secondsOf ⟨s % 60, (m + s / 60) % 60, h + (m + s / 60) / 60⟩ = secondsOf ⟨s, m, h⟩ := by
  simp only [secondsOf]
  omega

/-- NORMALIZE keeps the seconds modulo the hour cycle (R174). -/
theorem secondsOf_normalize_modEq (t : Time) (mode12 : Bool) :
    secondsOf (normalize t mode12) ≡ secondsOf t [MOD cycleSeconds mode12] := by
  obtain ⟨s, m, h⟩ := t
  rw [← secondsOf_carry s m h]
  exact ((hwrap_seconds_modEq _ mode12).add_right _).add_right _

/-- Settles O8: the congruence, read as an equation of remainders. -/
theorem normalizePreservesTheTime : Obligations.NormalizePreservesTheTime := secondsOf_normalize_modEq

/-- A time of day's seconds begin with hour 1 in Twelve mode and with hour 0 in TwentyFour mode, and span one hour cycle (R172, R174). -/
theorem secondsOf_bounds {mode12 : Bool} {t : Time} (ht : timeOfDayOk mode12 t = true) :
    (if mode12 = true then 3600 else 0) ≤ secondsOf t ∧
      secondsOf t < (if mode12 = true then 3600 else 0) + cycleSeconds mode12 := by
  obtain ⟨hsec, hmin, hhr⟩ := (timeOfDayOk_iff _ _).1 ht
  simp only [secondsOf, cycleSeconds]
  split_ifs at hhr ⊢ <;> omega

/-- Seconds and minutes below 60 are the digits of the seconds a time stands for. -/
theorem time_eq_of_secondsOf_eq {t u : Time} (hts : t.s < 60) (htm : t.m < 60) (hus : u.s < 60) (hum : u.m < 60)
    (h : secondsOf t = secondsOf u) : t = u := by
  obtain ⟨s, m, hr⟩ := t
  obtain ⟨s', m', hr'⟩ := u
  simp only [secondsOf, Time.mk.injEq] at *
  omega

/-- A time of day is determined by its seconds modulo the hour cycle (R172, R174). -/
theorem timeOfDay_eq_of_modEq {mode12 : Bool} {t u : Time} (ht : timeOfDayOk mode12 t = true)
    (hu : timeOfDayOk mode12 u = true) (h : secondsOf t ≡ secondsOf u [MOD cycleSeconds mode12]) : t = u := by
  obtain ⟨hts, htm, -⟩ := (timeOfDayOk_iff _ _).1 ht
  obtain ⟨hus, hum, -⟩ := (timeOfDayOk_iff _ _).1 hu
  obtain ⟨htlow, hthigh⟩ := secondsOf_bounds ht
  obtain ⟨hulow, huhigh⟩ := secondsOf_bounds hu
  exact time_eq_of_secondsOf_eq hts htm hus hum (h.eq_of_abs_lt (by rw [abs_lt]; omega))

/-- NORMALIZE fixes a time of day (R173). -/
theorem normalize_of_timeOfDayOk {mode12 : Bool} {t : Time} (h : timeOfDayOk mode12 t = true) : normalize t mode12 = t :=
  timeOfDay_eq_of_modEq (timeOfDayOk_normalize t mode12) h (secondsOf_normalize_modEq t mode12)

/-- Settles O7: a time in the range is a time of day, which NORMALIZE fixes, and NORMALIZE's result is one. -/
theorem normalizeIsIdempotent : Obligations.NormalizeIsIdempotent := fun t mode12 =>
  ⟨fun hsec hmin hhr => normalize_of_timeOfDayOk ((timeOfDayOk_iff mode12 t).2 ⟨hsec, hmin, hhr⟩),
    normalize_of_timeOfDayOk (timeOfDayOk_normalize t mode12)⟩

/-- A tick adds its period (R175). -/
theorem secondsOf_tickFn_modEq (c : Cfg) (t : Time) :
    secondsOf (tickFn c t) ≡ secondsOf t + c.tickPeriodS.toNat [MOD cycleSeconds c.mode12] := by
  have hadd : secondsOf ⟨t.s + c.tickPeriodS.toNat, t.m, t.h⟩ = secondsOf t + c.tickPeriodS.toNat := by
    simp only [secondsOf]
    omega
  rw [← hadd]
  exact secondsOf_normalize_modEq _ _

/-- An increment adds one minute (R176). -/
theorem secondsOf_incFn_modEq (c : Cfg) (t : Time) :
    secondsOf (incFn c t) ≡ secondsOf t + 60 [MOD cycleSeconds c.mode12] := by
  have hadd : secondsOf ⟨t.s, t.m + 1, t.h⟩ = secondsOf t + 60 := by
    simp only [secondsOf]
    omega
  rw [← hadd]
  exact secondsOf_normalize_modEq _ _

/-- Settles O9: each transition normalises its operand, and NORMALIZE keeps the time. -/
theorem transitionsMoveTheTime : Obligations.TransitionsMoveTheTime := fun c t =>
  ⟨secondsOf_tickFn_modEq c t, secondsOf_incFn_modEq c t, secondsOf_normalize_modEq _ _⟩

/-- A tick and an increment commute: in either order the result is the time of day for the seconds with the period and a minute added
(R180). -/
theorem tickFn_incFn_comm (c : Cfg) (t : Time) : tickFn c (incFn c t) = incFn c (tickFn c t) := by
  refine timeOfDay_eq_of_modEq (timeOfDayOk_tickFn _ _) (timeOfDayOk_normalize _ _) ?_
  calc secondsOf (tickFn c (incFn c t))
      ≡ secondsOf (incFn c t) + c.tickPeriodS.toNat [MOD cycleSeconds c.mode12] := secondsOf_tickFn_modEq c _
    _ ≡ secondsOf t + 60 + c.tickPeriodS.toNat [MOD cycleSeconds c.mode12] := (secondsOf_incFn_modEq c t).add_right _
    _ = secondsOf t + c.tickPeriodS.toNat + 60 := Nat.add_right_comm _ _ _
    _ ≡ secondsOf (tickFn c t) + 60 [MOD cycleSeconds c.mode12] := (secondsOf_tickFn_modEq c t).symm.add_right _
    _ ≡ secondsOf (incFn c (tickFn c t)) [MOD cycleSeconds c.mode12] := (secondsOf_incFn_modEq c _).symm

/-- Settles O10: a tick and an increment commute; a tick before the jump carries into the tens the jump rounds, a tick after it does
not. -/
theorem tickCommutesWithIncrementNotJump : Obligations.TickCommutesWithIncrementNotJump := by
  refine ⟨tickFn_incFn_comm, fun c hperiod => ?_⟩
  simp only [tickFn, jumpFn, hperiod]
  cases c.mode12 <;> decide

/-- NORMALIZE as a step normalises the time on the wires (R170; log 8). -/
theorem exec_normalize (s : State) :
    exec .normalize s = .next { s with fn := { s.fn with time := normalize s.fn.time s.fn.mode12 } } := rfl

/-- TICK_FN as a step puts the ticked time on the wires (R175; log 8). -/
theorem exec_tickFn (s : State) : exec .tickFn s = .next { s with fn := { s.fn with time := tickFn s.cfg s.time } } := rfl

/-- INC_FN as a step puts the incremented time on the wires (R176; log 8). -/
theorem exec_incFn (s : State) : exec .incFn s = .next { s with fn := { s.fn with time := incFn s.cfg s.time } } := rfl

/-- JUMP_FN as a step puts the jumped time on the wires (R177; log 8). -/
theorem exec_jumpFn (s : State) : exec .jumpFn s = .next { s with fn := { s.fn with time := jumpFn s.cfg s.time } } := rfl

/-- Settles O11: the formulas are those of the functions, which the steps put on the wires. -/
theorem clockFunctionSteps : Obligations.ClockFunctionSteps := fun s =>
  ⟨exec_normalize s, exec_tickFn s, exec_incFn s, exec_jumpFn s⟩

end Sys2Proof.Machine
end

section
/-! SUPPORT. The steps of the Mode Controller (R210 to R237) and the dark intervals (R212, R223, R357), each with its effect where MAIN
stands at it. -/
namespace Sys2Proof.Machine

/-- A MAIN step is taken where MAIN stands at its phase and its own condition holds (R32, R96). -/
theorem mainStep_at {p : Phase} {s : State} (h : MainAt p s) (hr : s.phaseReady p = true) (t : State) :
    mainStep p t s = .next t := by
  obtain ⟨hh, hp⟩ := h
  exact mainStep_taken hh hp hr t

/-- The display window is open below CFG.SHOW_MS (R211). -/
theorem showOpen_iff (s : State) :
    s.showOpen = true ↔ (s.ms.toNat + 2 ^ 32 - s.t0.toNat) % 2 ^ 32 < s.cfg.showMs.toNat := by
  rw [State.showOpen, decide_eq_true_iff, elapsedMs_eq]

/-- The window of LedToggle is over from CFG.LED_WINDOW_MS on (R236). -/
theorem ledOver_iff (s : State) :
    s.ledOver = true ↔ s.cfg.ledWindowMs.toNat ≤ (s.ms.toNat + 2 ^ 32 - s.t0.toNat) % 2 ^ 32 := by
  rw [State.ledOver, decide_eq_true_iff, elapsedMs_eq]

/-- Settles O23: the three steps start a wait of one dark interval, which fits WT. -/
theorem darkStepsLoadTheInterval : Obligations.DarkStepsLoadTheInterval := by
  intro s e he hs
  have heffect (q : Phase) : (s.startWait s.cfg.darkUs.toNat).goto q = { s with wt := s.cfg.darkUs.setWidth 32, phase := q } := by
    rw [startWait_strap]
    rfl
  simp only [List.mem_cons, List.not_mem_nil, or_false] at he
  rcases he with rfl | rfl | rfl <;> exact (mainStep_at hs rfl _).trans (congrArg _ (heffect _))

/-- Settles O28: the two steps that start a window wait for nothing. -/
theorem windowsStartAtMs : Obligations.WindowsStartAtMs := fun _ =>
  ⟨fun hs => mainStep_at hs rfl _, fun hs => mainStep_at hs rfl _⟩

/-- SHW_HEAD at its phase (R211). -/
theorem exec_shwHead {s : State} (h : MainAt 0x05 s) :
    exec .shwHead s = .next
      (if s.showOpen then { s with colon := true, ret := phShwDark }.goto phRnSnap else s.goto phShwExpire) :=
  mainStep_at h rfl _

/-- Settles O29: the branches of SHW_HEAD, by whether the display window is open. -/
theorem shwHeadSweepsOrExpires : Obligations.ShwHeadSweepsOrExpires := by
  intro s hs passed
  refine ⟨fun hlt => ?_, fun hle => ?_⟩
  · rw [exec_shwHead hs, if_pos ((showOpen_iff s).2 hlt)]
    rfl
  · rw [exec_shwHead hs, if_neg fun h => Nat.not_lt.2 hle ((showOpen_iff s).1 h)]
    rfl

/-- SHW_POLL at its phase (R214). -/
theorem exec_shwPoll {s : State} (h : MainAt 0x08 s) :
    exec .shwPoll s = .next
      (if s.pressed then { s with hit := true }.goto phShwHead else if s.hit then s.goto phExitOff else s.goto phShwHead) :=
  mainStep_at h rfl _

/-- SHW_EXPIRE at its phase (R215). -/
theorem exec_shwExpire {s : State} (h : MainAt 0x09 s) :
    exec .shwExpire s = .next (if s.pressed then { s with mode := modeSetting }.goto phSetBegin else s.goto phExitOff) :=
  mainStep_at h rfl _

/-- The button is pressed exactly while BTN_N is low (R53). -/
theorem pressed_iff (s : State) : s.pressed = true ↔ s.btnN = false := by simp [State.pressed]

/-- The button is not pressed exactly while BTN_N is high (R53). -/
theorem not_pressed_iff (s : State) : ¬ s.pressed = true ↔ s.btnN = true := by simp [State.pressed]

/-- Settles O30: the branches of SHW_POLL and SHW_EXPIRE, by the button and HIT. -/
theorem showingTimeSamplesTheButton : Obligations.ShowingTimeSamplesTheButton := by
  intro s
  refine ⟨fun hs => ⟨fun hdown => ?_, fun hup hhit => ?_, fun hup hhit => ?_⟩, fun hs => ⟨fun hdown => ?_, fun hup => ?_⟩⟩
  · rw [exec_shwPoll hs, if_pos ((pressed_iff s).2 hdown)]
    rfl
  · rw [exec_shwPoll hs, if_neg ((not_pressed_iff s).2 hup), if_pos hhit]
    rfl
  · rw [exec_shwPoll hs, if_neg ((not_pressed_iff s).2 hup), if_neg (by simp [hhit])]
    rfl
  · rw [exec_shwExpire hs, if_pos ((pressed_iff s).2 hdown)]
    rfl
  · rw [exec_shwExpire hs, if_neg ((not_pressed_iff s).2 hup)]
    rfl

/-- Settles O31: the two exits wait for nothing. -/
theorem exitsReturnToSleeping : Obligations.ExitsReturnToSleeping := fun _ =>
  ⟨fun hs => mainStep_at hs rfl _, fun hs => mainStep_at hs rfl _⟩

/-- SET_HEAD at its phase (R221). -/
theorem exec_setHead {s : State} (h : MainAt 0x11 s) :
    exec .setHead s = .next
      (if s.idle.toNat < s.cfg.setIdleMs.toNat then { s with rep := 0, colon := true }.goto phSetBlink else s.goto phExitOff) :=
  mainStep_at h rfl _

/-- Settles O32: SET_BEGIN waits for nothing, and SET_HEAD branches on IDLE. -/
theorem settingTimeHeads : Obligations.SettingTimeHeads := by
  intro s
  refine ⟨fun hs => mainStep_at hs rfl _, fun hs => ⟨fun hlt => ?_, fun hle => ?_⟩⟩
  · rw [exec_setHead hs, if_pos hlt]
    rfl
  · rw [exec_setHead hs, if_neg (Nat.not_lt.2 hle)]
    rfl

/-- SET_BLINK at its phase (R222). -/
theorem exec_setBlink {s : State} (h : MainAt 0x12 s) :
    exec .setBlink s = .next
      (if s.rep.toNat < s.cfg.blinkReps.toNat then { s with ret := phSetBdark }.goto phRnSnap
       else if s.colon then { s with colon := false, rep := 0 } else s.goto phSetPoll) :=
  mainStep_at h rfl _

/-- Settles O33: the branches of SET_BLINK, by REP and COLON. -/
theorem setBlinkRunsTwoHalves : Obligations.SetBlinkRunsTwoHalves := by
  intro s hs
  refine ⟨fun hlt => ?_, fun hle hcolon => ?_, fun hle hcolon => ?_⟩
  · rw [exec_setBlink hs, if_pos hlt]
    rfl
  · rw [exec_setBlink hs, if_neg (Nat.not_lt.2 hle), if_pos hcolon]
  · rw [exec_setBlink hs, if_neg (Nat.not_lt.2 hle), if_neg (by simp [hcolon])]
    rfl

/-- A register holds every number below its range. -/
theorem toNat_ofNat_of_fits {w n : Nat} (h : n < 2 ^ w) : (BitVec.ofNat w n).toNat = n := by
  rw [BitVec.toNat_ofNat, Nat.mod_eq_of_lt h]

/-- Settles O34: SET_BDARKW is a timed wait, and each sum fits its register. -/
theorem settingTimeCountsOn : Obligations.SettingTimeCountsOn := by
  intro s
  refine ⟨fun hs => ?_, fun hs hfit => ?_⟩
  · obtain ⟨htaken, hheld⟩ := mainStep_timed (p := 0x14) rfl hs ({ s with rep := s.rep + 1 }.goto phSetBlink)
    exact ⟨hheld, fun hw hlt => ⟨s.rep + 1, by bv_omega, htaken hw⟩⟩
  · exact ⟨_, toNat_ofNat_of_fits hfit, mainStep_at hs rfl _⟩

/-- SET_POLL at its phase (R225). -/
theorem exec_setPoll {s : State} (h : MainAt 0x15 s) :
    exec .setPoll s = .next
      (if s.pressed then
         { s with idle := 0, hold := BitVec.ofNat 4 (Nat.min (s.hold.toNat + 1) s.cfg.accelCycles.toNat) }.goto phSetLock
       else { s with hold := 0 }.goto phSetAcc) :=
  mainStep_at h rfl _

/-- Settles O35: the branches of SET_POLL; the saturated count is at most CFG.ACCEL_CYCLES, so HOLD holds it. -/
theorem setPollCountsTheHold : Obligations.SetPollCountsTheHold := by
  intro s hs
  refine ⟨fun hdown => ?_, fun hup => ?_⟩
  · have hfit : Nat.min (s.hold.toNat + 1) s.cfg.accelCycles.toNat < 2 ^ 4 :=
      (Nat.min_le_right _ _).trans_lt s.cfg.accelCycles.isLt
    refine ⟨_, toNat_ofNat_of_fits hfit, ?_⟩
    rw [exec_setPoll hs, if_pos ((pressed_iff s).2 hdown)]
    rfl
  · rw [exec_setPoll hs, if_neg ((not_pressed_iff s).2 hup)]
    rfl

/-- Settles O36: SET_LOCK and SET_UNLOCK wait for nothing. -/
theorem bracketMasksTheTick : Obligations.BracketMasksTheTick := fun _ =>
  ⟨exec_setLock, exec_setUnlock⟩

/-- SET_MUT's time is NORMALIZE of the minute it aims at (R176, R177, R232). -/
theorem changedTime_eq (s : State) :
    s.changedTime = normalize ⟨s.sec.toNat,
      if s.hold.toNat < s.cfg.accelCycles.toNat then s.min.toNat + 1 else s.min.toNat / 10 * 10 + 10, s.hr.toNat⟩
      s.cfg.mode12 := by
  unfold State.changedTime
  split_ifs <;> rfl

/-- Settles O37: the registers read back the time SET_MUT writes, which is NORMALIZE's. -/
theorem setMutMovesTheMinute : Obligations.SetMutMovesTheMinute := by
  intro s hs target minute hour
  have hread : (s.setTime s.changedTime).time = normalize ⟨s.sec.toNat, target, s.hr.toNat⟩ s.cfg.mode12 :=
    (setTime_time_of_timeOfDayOk (timeOfDayOk_changedTime s)).trans (changedTime_eq s)
  exact ⟨_, _, _, congrArg Time.s hread, congrArg Time.m hread, congrArg Time.h hread, exec_setMut hs⟩

/-- LED_LOOP waits for the end of its window or for a change of AUX (R96, R236). -/
theorem phaseReady_ledLoop (s : State) : s.phaseReady phLedLoop = (s.ledOver || (s.aux != s.auxp)) := rfl

/-- LED_LOOP at its phase, once it waits for nothing more (R236). -/
theorem exec_ledLoop {s : State} (h : MainAt 0x24 s) (hr : s.ledOver = true ∨ s.aux ≠ s.auxp) :
    exec .ledLoop s = .next
      (if s.ledOver then s.goto phLedExit
       else if s.aux && !s.auxp then { s with led := !s.led, auxp := true } else { s with auxp := false }) :=
  mainStep_at h (by rw [phaseReady_ledLoop]; simpa using hr) _

/-- Settles O38: the branches of LED_LOOP, and its held case, in which it is not ready. -/
theorem ledLoopTogglesPerTouch : Obligations.LedLoopTogglesPerTouch := by
  intro s hs passed
  refine ⟨fun hle => ?_, fun hlt => ?_⟩
  · have hover := (ledOver_iff s).2 hle
    rw [exec_ledLoop hs (.inl hover), if_pos hover]
    rfl
  · have hopen : ¬ s.ledOver = true := fun h => Nat.not_lt.2 ((ledOver_iff s).1 h) hlt
    refine ⟨fun haux hauxp => ?_, fun haux hauxp => ?_, fun hsame => mainStep_held ?_ _⟩
    · rw [exec_ledLoop hs (.inr (by simp [haux, hauxp])), if_neg hopen, if_pos (by simp [haux, hauxp])]
    · rw [exec_ledLoop hs (.inr (by simp [haux, hauxp])), if_neg hopen, if_neg (by simp [haux])]
    · rw [State.mainEnabled, phaseReady_ledLoop]
      simp [hopen, hsame]

end Sys2Proof.Machine
end

section
/-! SUPPORT. The mode graph (R202): which operations change MODE, and which lead MAIN to EXIT_OFF or LED_EXIT. -/
namespace Sys2Proof.Machine

/-- The operations that change MODE or lead to the step of an exit. -/
def modeMovers : List Instr := [.slpEval, .shwPoll, .shwExpire, .exitOff, .setHead, .ledLoop, .ledExit, .reset]

/-- MODE is as it was, and no step of an exit, EXIT_OFF or LED_EXIT, has been newly reached. -/
def StaysInMode (s t : State) : Prop :=
  t.mode = s.mode ∧ (t.phase = s.phase ∨ t.phase ≠ phExitOff ∧ t.phase ≠ phLedExit)

/-- An operation that writes neither MODE nor PHASE. -/
theorem staysInMode_of_eq {s t : State} (hm : t.mode = s.mode) (hp : t.phase = s.phase) : StaysInMode s t :=
  ⟨hm, .inl hp⟩

/-- A step to a phase that is no exit's, with MODE as it was. -/
theorem staysInMode_of_phase {s t : State} (hm : t.mode = s.mode) (h0A : t.phase ≠ 0x0A) (h25 : t.phase ≠ 0x25) :
    StaysInMode s t :=
  ⟨hm, .inr ⟨h0A, h25⟩⟩

/-- No sweep returns to the step of an exit (R33). -/
theorem ret_not_exit {r : Phase} (h : r = 0 ∨ r = 0x06 ∨ r = 0x13 ∨ r = 0x3A) : r ≠ 0x0A ∧ r ≠ 0x25 := by
  rcases h with rfl | rfl | rfl | rfl <;> decide

/-- MAIN's steps but the movers keep MODE and go to phases of the same mode that are no exits. -/
theorem main_staysInMode {i : Instr} {p : Phase} {s t : State} (hp : mainPhase i = some p) (hi : i ∉ modeMovers) (hs : PhaseOk s)
    (h : exec i s = .next t) : StaysInMode s t := by
  have hheld : StaysInMode s s := staysInMode_of_eq rfl rfl
  cases i with
  | slpEval | shwPoll | shwExpire | exitOff | setHead | ledLoop | ledExit => exact absurd (by decide) hi
  | shwHead | setPoll | bootHead | bootFrame =>
    refine mainStep_keeps h hheld fun _ _ => ?_
    split_ifs <;> exact staysInMode_of_phase rfl (by simp) (by simp)
  | setBlink =>
    refine mainStep_keeps h hheld fun _ _ => ?_
    split_ifs
    · exact staysInMode_of_phase rfl (by simp) (by simp)
    · exact staysInMode_of_eq rfl rfl
    · exact staysInMode_of_phase rfl (by simp) (by simp)
  | ddOff =>
    obtain ⟨-, hret, -⟩ := hs
    obtain ⟨h0A, h25⟩ := ret_not_exit hret
    refine mainStep_keeps h hheld fun _ _ => ?_
    split_ifs
    · exact staysInMode_of_phase rfl (by simp) (by simp)
    · exact staysInMode_of_phase rfl h0A h25
  | shwDb0 | shwDb1 | shwDb2 | shwBegin | shwDark | shwDarkw | setBegin | setBdark | setBdarkw | setLock | setMut | setUnlock
  | setAcc | ledDb0 | ledDb1 | ledDb2 | ledBegin | rnSnap | rgLoad | ddOn | ddHold | bootDark | bootDarkw =>
    exact mainStep_keeps h hheld fun _ _ => staysInMode_of_phase rfl (by simp) (by simp)
  | _ => cases hp

/-- Every operation but the movers keeps MODE and reaches no exit: handlers and ENV write neither MODE nor PHASE. -/
theorem exec_staysInMode {i : Instr} {s t : State} (hi : i ∉ modeMovers) (hs : PhaseOk s) (h : exec i s = .next t) :
    StaysInMode s t := by
  rcases exec_cases h with heq | ⟨dt, -, rfl⟩ | ⟨p, hp⟩ | rfl | rfl | rfl | rfl
  · rw [heq]; exact staysInMode_of_eq rfl rfl
  · rw [advanceBy_eq_withInputs]; exact staysInMode_of_eq rfl rfl
  · exact main_staysInMode hp hi hs h
  · exact handlerStep_keeps h (staysInMode_of_eq rfl rfl) (staysInMode_of_eq rfl rfl)
  · exact handlerStep_keeps h (staysInMode_of_eq rfl rfl) (staysInMode_of_eq rfl rfl)
  · exact handlerStep_keeps h (staysInMode_of_eq rfl rfl) (staysInMode_of_eq rfl rfl)
  · exact absurd (by decide) hi

/-- MODE by the phase where MAIN stands outside the display sub-sequence (R201). -/
theorem modeOk_at {s : State} {p : Phase} (hs : ModeOk s) (hp : s.phase = p) (hout : inSweep p = false) :
    (ownsSleeping p = true → s.mode = 0) ∧ (ownsShowing p = true → s.mode = 1) ∧ (ownsSetting p = true → s.mode = 2) ∧
      (ownsLed p = true → s.mode = 3) := by
  obtain ⟨hsleep, -, hset, hshow, hled, -⟩ := hs
  rw [owner_of_outside hp hout] at hsleep hset hshow hled
  exact ⟨hsleep.2, hshow, hset, hled.2⟩

/-- At EXIT_OFF the mode that ends is ShowingTime or SettingTime (R216). -/
theorem mode_at_exitOff {s : State} (hs : ModeOk s) (hp : s.phase = 0x0A) : s.mode = 1 ∨ s.mode = 2 := by
  obtain ⟨hsleep, -, -, -, hled, -⟩ := hs
  rw [owner_of_outside hp rfl] at hsleep hled
  have h0 : s.mode ≠ 0 := fun h => absurd (hsleep.1 h) (by decide)
  have h3 : s.mode ≠ 3 := fun h => absurd (hled.1 h) (by decide)
  bv_omega

/-- A MAIN step that changes MODE or comes to an exit is taken, not held. -/
theorem mainStep_moves {p : Phase} {t s u : State} (h : mainStep p t s = .next u) (hmove : ¬ StaysInMode s u) :
    s.phase = p ∧ u = t := by
  rcases mainStep_cases h with ⟨-, hp, -, rfl⟩ | ⟨-, rfl⟩
  · exact ⟨hp, rfl⟩
  · exact absurd (staysInMode_of_eq rfl rfl) hmove

/-- Settles O54: every operation but the movers stays in its mode; each mover stands at a phase of one mode, EXIT_OFF at one of two,
and the branch it takes is the edge's condition. -/
theorem modeChangesFollowTheGraph : Obligations.ModeChangesFollowTheGraph := by
  intro i s t hmode hphase h hreset
  by_cases hstay : StaysInMode s t
  · obtain ⟨hm, hsame | ⟨h0A, h25⟩⟩ := hstay
    · exact ⟨fun hne => absurd hm hne, fun ht hs => absurd (hsame.symm.trans ht) hs, fun ht hs => absurd (hsame.symm.trans ht) hs⟩
    · exact ⟨fun hne => absurd hm hne, fun ht => absurd ht h0A, fun ht => absurd ht h25⟩
  by_cases hmover : i ∉ modeMovers
  · exact absurd (exec_staysInMode hmover hphase h) hstay
  cases i with
  | slpEval =>
    obtain ⟨hph, rfl⟩ := mainStep_moves h hstay
    obtain ⟨hm, -⟩ := modeOk_at hmode hph rfl
    split_ifs with hshow hled
    · exact ⟨fun _ => .inl ⟨hm rfl, rfl, rfl, by simpa [or_comm] using hshow⟩, by simp, by simp⟩
    · obtain ⟨hon, hno⟩ : s.cfg.alwaysOn = false ∧ s.showReq = false := by simpa using hshow
      exact ⟨fun _ => .inr (.inl ⟨hm rfl, rfl, rfl, hled, hno, hon⟩), by simp, by simp⟩
    · simp [hph]
  | shwPoll =>
    obtain ⟨hph, rfl⟩ := mainStep_moves h hstay
    obtain ⟨-, hm, -⟩ := modeOk_at hmode hph rfl
    split_ifs with hdown hhit
    · simp
    · exact ⟨by simp, fun _ _ => .inr (.inl ⟨hm rfl, rfl, (not_pressed_iff s).1 hdown, hhit⟩), by simp⟩
    · simp
  | shwExpire =>
    obtain ⟨hph, rfl⟩ := mainStep_moves h hstay
    obtain ⟨-, hm, -⟩ := modeOk_at hmode hph rfl
    split_ifs with hdown
    · exact ⟨fun _ => .inr (.inr (.inl ⟨hm rfl, rfl, rfl, (pressed_iff s).1 hdown⟩)), by simp, by simp⟩
    · exact ⟨by simp, fun _ _ => .inl ⟨hm rfl, rfl, (not_pressed_iff s).1 hdown⟩, by simp⟩
  | exitOff =>
    obtain ⟨hph, rfl⟩ := mainStep_moves h hstay
    refine ⟨fun _ => .inr (.inr (.inr ?_)), by simp, by simp⟩
    rcases mode_at_exitOff hmode hph with hm | hm
    · exact .inl ⟨hm, rfl, rfl, hph⟩
    · exact .inr (.inl ⟨hm, rfl, rfl, hph⟩)
  | setHead =>
    obtain ⟨hph, rfl⟩ := mainStep_moves h hstay
    obtain ⟨-, -, hm, -⟩ := modeOk_at hmode hph rfl
    split_ifs with hidle
    · simp
    · exact ⟨by simp, fun _ _ => .inr (.inr ⟨hm rfl, rfl, Nat.not_lt.1 hidle⟩), by simp⟩
  | ledLoop =>
    obtain ⟨hph, rfl⟩ := mainStep_moves h hstay
    obtain ⟨-, -, -, hm⟩ := modeOk_at hmode hph rfl
    split_ifs with hover
    · exact ⟨by simp, by simp, fun _ _ => ⟨hm rfl, rfl, (ledOver_iff s).1 hover⟩⟩
    · simp [hph]
    · simp [hph]
  | ledExit =>
    obtain ⟨hph, rfl⟩ := mainStep_moves h hstay
    obtain ⟨-, -, -, hm⟩ := modeOk_at hmode hph rfl
    exact ⟨fun _ => .inr (.inr (.inr (.inr (.inr ⟨hm rfl, rfl, rfl, hph⟩)))), by simp, by simp⟩
  | reset => exact absurd rfl hreset
  | _ => exact absurd (by simp [modeMovers]) hmover

end Sys2Proof.Machine
end

section
/-! SUPPORT. The debounce sequences (R261 to R266): when each wait for release is ready, and the settle delay its first wait loads. -/
namespace Sys2Proof.Machine

/-- A wait for the button's release is ready exactly while BTN_N is high (R53, R96, R261, R263). -/
theorem phaseReady_btnRelease {p : Phase} (hp : p = phShwDb0 ∨ p = phShwDb2) (s : State) : s.phaseReady p = s.btnN := by
  rcases hp with rfl | rfl <;> exact Bool.not_not s.btnN

/-- A wait for AUX's release is ready exactly while AUX is low (R96, R264, R266). -/
theorem phaseReady_auxRelease {p : Phase} (hp : p = phLedDb0 ∨ p = phLedDb2) (s : State) : s.phaseReady p = !s.aux := by
  rcases hp with rfl | rfl <;> rfl

/-- A MAIN step whose own condition does not hold changes nothing (R96; log 3). -/
theorem mainStep_not_ready {p : Phase} {s : State} (hr : s.phaseReady p = false) (t : State) : mainStep p t s = .next s :=
  mainStep_held (by rw [State.mainEnabled, hr, Bool.and_false]) t

/-- A wait for the button's release is held while the button is pressed and taken once it is not (R261, R263). -/
theorem mainStep_btnRelease {p : Phase} (hp : p = phShwDb0 ∨ p = phShwDb2) {s : State} (h : MainAt p s) (t : State) :
    (s.btnN = false → mainStep p t s = .next s) ∧ (s.btnN = true → mainStep p t s = .next t) :=
  ⟨fun hdown => mainStep_not_ready ((phaseReady_btnRelease hp s).trans hdown) t,
   fun hup => mainStep_at h ((phaseReady_btnRelease hp s).trans hup) t⟩

/-- A wait for AUX's release is held while AUX is touched and taken once it is not (R264, R266). -/
theorem mainStep_auxRelease {p : Phase} (hp : p = phLedDb0 ∨ p = phLedDb2) {s : State} (h : MainAt p s) (t : State) :
    (s.aux = true → mainStep p t s = .next s) ∧ (s.aux = false → mainStep p t s = .next t) :=
  ⟨fun hdown => mainStep_not_ready (by rw [phaseReady_auxRelease hp, hdown]; rfl) t,
   fun hup => mainStep_at h (by rw [phaseReady_auxRelease hp, hup]; rfl) t⟩

/-- WT holds every settle delay: a strap's milliseconds, in microseconds (R261, R264). -/
theorem settleDelay_toNat (ms : BitVec 16) : (BitVec.ofNat 32 (ms.toNat * 1000)).toNat = ms.toNat * 1000 :=
  toNat_ofNat_of_fits (by have := ms.isLt; omega)

/-- Settles O27: the four steps are waits for a release, two of the button and two of AUX, and the settle delays fit WT. -/
theorem releaseWaitsDebounce : Obligations.ReleaseWaitsDebounce := by
  intro s
  refine ⟨fun hs => ?_, fun hs => mainStep_btnRelease (.inr rfl) hs _, fun hs => ?_,
    fun hs => mainStep_auxRelease (.inr rfl) hs _⟩
  · obtain ⟨hheld, htaken⟩ := mainStep_btnRelease (.inl rfl) hs _
    exact ⟨hheld, fun hup => ⟨_, settleDelay_toNat s.cfg.settleMs, htaken hup⟩⟩
  · obtain ⟨hheld, htaken⟩ := mainStep_auxRelease (.inl rfl) hs _
    exact ⟨hheld, fun hup => ⟨_, settleDelay_toNat s.cfg.auxSettleMs, htaken hup⟩⟩

end Sys2Proof.Machine
end

section
/-! SUPPORT. The Power/Sleep Scheduler (R281 to R286): the branches of SLP_EVAL, MAIN's one enabled step at a phase, and the requests and
the running MAIN over a list of steps. -/
namespace Sys2Proof.Machine

/-- SLP_EVAL at its phase (R281). -/
theorem exec_slpEval {s : State} (h : MainAt 0x00 s) :
    exec .slpEval s = .next
      (if s.cfg.alwaysOn || s.showReq then { s with mode := modeShowing }.goto phShwDb0
       else if s.ledReq then { s with mode := modeLed }.goto phLedDb0
       else { s with halt := true }) :=
  mainStep_at h rfl _

/-- SLP_EVAL starts ShowingTime when the button asks for it or in always-on operation (R281, R285). -/
theorem exec_slpEval_showing {s : State} (h : MainAt 0x00 s) (hshow : s.cfg.alwaysOn = true ∨ s.showReq = true) :
    exec .slpEval s = .next { s with mode := 1, phase := 0x01 } := by
  rw [exec_slpEval h, if_pos (Bool.or_eq_true_iff.2 hshow)]
  rfl

/-- SLP_EVAL starts LedToggle when AUX alone asks for its mode (R281). -/
theorem exec_slpEval_led {s : State} (h : MainAt 0x00 s) (hon : s.cfg.alwaysOn = false) (hshow : s.showReq = false)
    (hled : s.ledReq = true) : exec .slpEval s = .next { s with mode := 3, phase := 0x20 } := by
  rw [exec_slpEval h, hon, hshow, if_neg (by decide), if_pos hled]
  rfl

/-- SLP_EVAL halts MAIN when no mode is asked for (R281). -/
theorem exec_slpEval_halts {s : State} (h : MainAt 0x00 s) (hon : s.cfg.alwaysOn = false) (hshow : s.showReq = false)
    (hled : s.ledReq = false) : exec .slpEval s = .next { s with halt := true } := by
  rw [exec_slpEval h, hon, hshow, hled]
  rfl

/-- Settles O25: the three branches of SLP_EVAL. -/
theorem slpEvalDispatchesOrHalts : Obligations.SlpEvalDispatchesOrHalts := fun _ hs =>
  ⟨exec_slpEval_showing hs, exec_slpEval_led hs, exec_slpEval_halts hs⟩

/-- The MAIN step with a PHASE code is the one that code selects (R32, R98). -/
theorem mainInstr_of_mainPhase {i : Instr} {p : Phase} (hp : mainPhase i = some p) : mainInstr p = some i := by
  cases i with
  | slpEval | shwDb0 | shwDb1 | shwDb2 | shwBegin | shwHead | shwDark | shwDarkw | shwPoll | shwExpire | exitOff
  | setBegin | setHead | setBlink | setBdark | setBdarkw | setPoll | setLock | setMut | setUnlock | setAcc
  | ledDb0 | ledDb1 | ledDb2 | ledBegin | ledLoop | ledExit | rnSnap | rgLoad | ddOn | ddHold | ddOff
  | bootHead | bootFrame | bootDark | bootDarkw => cases hp; rfl
  | _ => cases hp

/-- Where MAIN stands at the phase of one step, every other MAIN step is held (R32; log 3). -/
theorem exec_other_main_held {s : State} {i j : Instr} {p : Phase} (hi : mainPhase i = some s.phase) (hj : mainPhase j = some p)
    (hne : j ≠ i) : exec j s = .next s := by
  refine mainStepsHeldElsewhere s j p hj (.inr fun hph => hne ?_)
  have hsame : mainInstr s.phase = some j := by rw [hph, mainInstr_of_mainPhase hj]
  exact Option.some.inj (hsame.symm.trans (mainInstr_of_mainPhase hi))

/-- Settles O49: the tick's handler and the halt of SLP_EVAL write TimeOfDay, the pending bit and HALT only. -/
theorem tickOnlyWakeShowsNothing : Obligations.TickOnlyWakeShowsNothing := by
  intro s hhalt hph hip hmask hshow hled hon
  have henabled : s.irqEnabled 0 = true := by simp [irqEnabled_tick, hip, hmask]
  have hat : MainAt 0x00 s.serveTick := ⟨rfl, hph⟩
  refine ⟨s.serveTick, _, exec_irqTick_of_enabled henabled, rfl, rfl, exec_slpEval_halts hat hon hshow hled,
    rfl, hph, rfl, serveTick_time s, fun i p hp hi => ?_⟩
  exact exec_other_main_held (i := .slpEval) (congrArg some hph.symm) hp hi

/-- From s to t, MAIN has not been halted and no request has been lost. -/
structure StaysAwake (s t : State) : Prop where
  running : s.halt = false → t.halt = false
  showReq_kept : s.showReq = true → t.showReq = true
  ledReq_kept : s.ledReq = true → t.ledReq = true

theorem StaysAwake.refl (s : State) : StaysAwake s s := ⟨id, id, id⟩

theorem StaysAwake.trans {s t u : State} (hst : StaysAwake s t) (htu : StaysAwake t u) : StaysAwake s u :=
  ⟨htu.running ∘ hst.running, htu.showReq_kept ∘ hst.showReq_kept, htu.ledReq_kept ∘ hst.ledReq_kept⟩

/-- Only SLP_EVAL halts MAIN, and only an exit or RESET clears a request (R35, R49). -/
theorem exec_staysAwake {i : Instr} {s t : State} (hi : i ≠ .slpEval ∧ i ≠ .exitOff ∧ i ≠ .ledExit ∧ i ≠ .reset)
    (h : exec i s = .next t) : StaysAwake s t := by
  obtain ⟨hslp, hexit, hledExit, hreset⟩ := hi
  obtain ⟨hhalts, -, -, -, hclears, -⟩ := wakeFlagOwnership i s t h
  have hno : ¬ (i = .exitOff ∨ i = .ledExit ∨ i = .reset) := by simp [hexit, hledExit, hreset]
  refine ⟨fun hs => ?_, fun hs => ?_, fun hs => ?_⟩
  · exact Bool.eq_false_iff.2 fun ht => hslp (hhalts hs ht)
  · by_contra ht
    exact hno (hclears (.inl ⟨hs, Bool.eq_false_iff.2 ht⟩))
  · by_contra ht
    exact hno (hclears (.inr ⟨hs, Bool.eq_false_iff.2 ht⟩))

/-- A list of steps that runs has a next state of its first one, from which the others run. -/
theorem execAll_cons_cases {i : Instr} {is : List Instr} {s u : State} (h : execAll (i :: is) s = .next u) :
    ∃ t, exec i s = .next t ∧ execAll is t = .next u := by
  cases he : exec i s with
  | next t => exact ⟨t, rfl, (execAll_cons he is).symm.trans h⟩
  | fault f => simp [execAll, he] at h
  | refused r => simp [execAll, he] at h

/-- MAIN stays awake over every list of steps with neither SLP_EVAL nor an exit nor RESET. -/
theorem execAll_staysAwake {is : List Instr} (his : ∀ i ∈ is, i ≠ .slpEval ∧ i ≠ .exitOff ∧ i ≠ .ledExit ∧ i ≠ .reset)
    {s u : State} (h : execAll is s = .next u) : StaysAwake s u := by
  induction is generalizing s with
  | nil =>
    cases h
    exact .refl _
  | cons i is ih =>
    obtain ⟨hi, hrest⟩ := List.forall_mem_cons.1 his
    obtain ⟨t, ht, hu⟩ := execAll_cons_cases h
    exact (exec_staysAwake hi ht).trans (ih hrest hu)

/-- The button's handler is enabled whenever its source is pending: TICK_MASK holds the tick alone (R37, R311). -/
theorem irqEnabled_btn (s : State) : s.irqEnabled 1 = s.ip.getLsbD 1 := Bool.and_true _

/-- So is the handler of AUX (R37, R312). -/
theorem irqEnabled_aux (s : State) : s.irqEnabled 2 = s.ip.getLsbD 2 := Bool.and_true _

/-- The next state of an enabled handler is the interrupt's (R310 to R313). -/
theorem eq_of_handlerStep_enabled {n : Nat} {body : State → State} {s t : State} (he : s.irqEnabled n = true)
    (h : handlerStep n body s = .next t) : t = { (body s).clearPending n with halt := false } :=
  Host.Outcome.next.inj (h.symm.trans (handlerStep_taken he body))

/-- A pending IRQ_BTN asks for ShowingTime and wakes MAIN (R311). -/
theorem exec_irqBtn_wakes {s t : State} (hip : s.ip.getLsbD 1 = true) (h : exec .irqBtn s = .next t) :
    t.showReq = true ∧ t.halt = false := by
  obtain rfl := eq_of_handlerStep_enabled ((irqEnabled_btn s).trans hip) h
  exact ⟨rfl, rfl⟩

/-- A pending IRQ_AUX asks for LedToggle and wakes MAIN (R312). -/
theorem exec_irqAux_wakes {s t : State} (hip : s.ip.getLsbD 2 = true) (h : exec .irqAux s = .next t) :
    t.ledReq = true ∧ t.halt = false := by
  obtain rfl := eq_of_handlerStep_enabled ((irqEnabled_aux s).trans hip) h
  exact ⟨rfl, rfl⟩

/-- SLP_EVAL serves a request of AUX, or the button or always-on operation before it, and does not halt (R281). -/
theorem exec_slpEval_serves_aux {s : State} (h : MainAt 0x00 s) (hled : s.ledReq = true) :
    ∃ t, exec .slpEval s = .next t ∧ t.halt = false ∧
      if s.showReq = true ∨ s.cfg.alwaysOn = true then t.mode = 1 ∧ t.phase = 0x01 else t.mode = 3 ∧ t.phase = 0x20 := by
  split_ifs with hshow
  · exact ⟨_, exec_slpEval_showing h hshow.symm, h.1, rfl, rfl⟩
  · obtain ⟨hno, hon⟩ : s.showReq = false ∧ s.cfg.alwaysOn = false := by simpa using hshow
    exact ⟨_, exec_slpEval_led h hon hno hled, h.1, rfl, rfl⟩

/-- Settles O50: the handler sets its request and wakes MAIN, the steps between keep both, and SLP_EVAL then dispatches. -/
theorem handlerAtSleepAlwaysDispatches : Obligations.HandlerAtSleepAlwaysDispatches := by
  intro s u between hbetween
  refine ⟨fun hip h => ?_, fun hip h => ?_⟩
  · obtain ⟨t, ht, hu⟩ := execAll_cons_cases h
    obtain ⟨hreq, hhalt⟩ := exec_irqBtn_wakes hip ht
    have hkept := execAll_staysAwake hbetween hu
    have hrun := hkept.running hhalt
    have hshow := hkept.showReq_kept hreq
    exact ⟨hshow, hrun, fun hph => ⟨_, exec_slpEval_showing ⟨hrun, hph⟩ (.inr hshow), rfl, rfl, hrun⟩⟩
  · obtain ⟨t, ht, hu⟩ := execAll_cons_cases h
    obtain ⟨hreq, hhalt⟩ := exec_irqAux_wakes hip ht
    have hkept := execAll_staysAwake hbetween hu
    have hrun := hkept.running hhalt
    have hled := hkept.ledReq_kept hreq
    exact ⟨hled, hrun, fun hph => exec_slpEval_serves_aux ⟨hrun, hph⟩ hled⟩

end Sys2Proof.Machine
end

section
/-! SUPPORT. The environment's events and the tick source (R304 to R309), and ADVANCE below, on and past the tick boundary (R321). -/
namespace Sys2Proof.Machine

/-- Settles O45: each event is taken at one level, where it raises its source, and refused at the other. -/
theorem inputEventsChangeTheLevel : Obligations.InputEventsChangeTheLevel := by
  intro s
  refine ⟨fun hup => ⟨if_pos hup, ?_⟩, fun hdown => ⟨if_neg (by simp [hdown]), ?_⟩,
    fun hoff => ⟨if_neg (by simp [hoff]), ?_⟩, fun hon => ⟨if_pos hon, ?_⟩⟩
  · exact (execBtnRelease_refused_iff s _).2 ⟨rfl, hup⟩
  · exact (execBtnPress_refused_iff s _).2 ⟨rfl, hdown⟩
  · exact (execAuxRelease_refused_iff s _).2 ⟨rfl, hoff⟩
  · exact (execAuxPress_refused_iff s _).2 ⟨rfl, hon⟩

/-- With no tick pending, the tick source sets its pending bit (R309). -/
theorem tickRaise_of_not_pending {s : State} (h : s.ip.getLsbD 0 = false) : s.tickRaise = { s with ip := s.ip ||| 0b001 } :=
  if_neg (Bool.eq_false_iff.1 h)

/-- With a tick pending already, the tick source records the lost period (R302, R309). -/
theorem tickRaise_of_pending {s : State} (h : s.ip.getLsbD 0 = true) : s.tickRaise = { s with tickOverrun := true } :=
  if_pos h

/-- Settles O46: the two cases of the tick source. -/
theorem tickRaiseSetsPendingOrOverrun : Obligations.TickRaiseSetsPendingOrOverrun := fun _ =>
  ⟨fun h => congrArg _ (tickRaise_of_not_pending h), fun h => congrArg _ (tickRaise_of_pending h)⟩

/-- ADVANCE answers its effect where it is enabled and the same state where it is not (R321; log 3). -/
theorem exec_advance (s : State) (dt : Nat) :
    exec (.advance dt) s = .next (if s.advanceEnabled dt then s.advanceBy dt else s) :=
  takeWhen_eq_next _ _ _

/-- A positive time that stays below the boundary moves the counters (R321). -/
theorem exec_advance_below {s : State} {dt : Nat} (hdt : 1 ≤ dt) (hb : s.tcnt.toNat + dt < s.cfg.periodUs) :
    exec (.advance dt) s = .next { s.passTime dt with tcnt := BitVec.ofNat 28 (s.tcnt.toNat + dt) } := by
  rw [exec_advance, if_pos ((advanceEnabled_iff s dt).2 ⟨hdt, hb.le⟩), State.advanceBy, if_neg hb.ne]

/-- A positive time that ends on the boundary restarts the tick timer and raises the tick (R309, R321). -/
theorem exec_advance_boundary {s : State} {dt : Nat} (hdt : 1 ≤ dt) (hb : s.tcnt.toNat + dt = s.cfg.periodUs) :
    exec (.advance dt) s = .next { s.passTime dt with tcnt := 0 }.tickRaise := by
  rw [exec_advance, if_pos ((advanceEnabled_iff s dt).2 ⟨hdt, hb.le⟩), State.advanceBy, if_pos hb]

/-- No time, and a time that would skip the boundary, are held (R321; log 3). -/
theorem exec_advance_held {s : State} {dt : Nat} (h : dt = 0 ∨ s.cfg.periodUs < s.tcnt.toNat + dt) :
    exec (.advance dt) s = .next s := by
  have hheld : ¬ s.advanceEnabled dt = true := by
    rw [advanceEnabled_iff]
    omega
  rw [exec_advance, if_neg hheld]

/-- MS after a time is NOW in milliseconds, modulo its register (R26, R321). -/
theorem passTime_ms_toNat (s : State) (dt : Nat) : (s.passTime dt).ms.toNat = (s.now + dt) / 1000 % 2 ^ 32 :=
  BitVec.toNat_ofNat _ _

/-- WT counts down to 0 and stays there (R27, R321). -/
theorem passTime_wt_toNat (s : State) (dt : Nat) : (s.passTime dt).wt.toNat = s.wt.toNat - dt :=
  toNat_ofNat_of_fits ((Nat.sub_le _ _).trans_lt s.wt.isLt)

/-- Settles O47: ADVANCE below the boundary, on it with and without a tick pending, and held. -/
theorem advancePassesTime : Obligations.AdvancePassesTime := by
  intro s dt pus
  refine ⟨fun hdt hb => ?_, fun hdt hb => ?_, exec_advance_held⟩
  · have hfit : s.tcnt.toNat + dt < 2 ^ 28 := hb.trans (periodUs_lt s.cfg)
    exact ⟨_, _, _, passTime_ms_toNat s dt, passTime_wt_toNat s dt, toNat_ofNat_of_fits hfit, exec_advance_below hdt hb⟩
  · refine ⟨_, _, passTime_ms_toNat s dt, passTime_wt_toNat s dt, fun hip => ?_, fun hip => ?_⟩
    · exact (exec_advance_boundary hdt hb).trans (congrArg _ (tickRaise_of_not_pending hip))
    · exact (exec_advance_boundary hdt hb).trans (congrArg _ (tickRaise_of_pending hip))

end Sys2Proof.Machine
end

section
/-! SUPPORT. The three handlers (R310 to R314): each is one interrupt with a body of its own, and two of them commute because they write
different registers. -/
namespace Sys2Proof.Machine

/-- Settles O42: the registers read back the time TICK_FN answers, which is NORMALIZE's. -/
theorem irqTickAddsThePeriod : Obligations.IrqTickAddsThePeriod := by
  intro s
  refine ⟨fun hip hmask => ?_, fun h => handlerStep_held ?_ _⟩
  · have henabled : s.irqEnabled 0 = true := by simp [irqEnabled_tick, hip, hmask]
    exact ⟨_, _, _, serveTick_time s, exec_irqTick_of_enabled henabled⟩
  · rcases h with hip | hmask
    · exact (irqEnabled_tick s).trans (by rw [hip, Bool.false_and])
    · exact irqEnabled_tick_of_masked hmask

/-- Settles O43: each handler is enabled exactly by its pending bit. -/
theorem buttonHandlersSetTheirRequest : Obligations.ButtonHandlersSetTheirRequest := fun s =>
  ⟨fun hip => handlerStep_taken ((irqEnabled_btn s).trans hip) _, fun hip => handlerStep_held ((irqEnabled_btn s).trans hip) _,
   fun hip => handlerStep_taken ((irqEnabled_aux s).trans hip) _, fun hip => handlerStep_held ((irqEnabled_aux s).trans hip) _⟩

/-- The state a handler step answers: the interrupt's where its source is enabled, the same one where it is not (R310 to R312; log 3). -/
def State.handled (s : State) (n : Nat) (body : State → State) : State :=
  if s.irqEnabled n then { (body s).clearPending n with halt := false } else s

theorem handlerStep_eq_handled (n : Nat) (body : State → State) (s : State) :
    handlerStep n body s = .next (s.handled n body) :=
  takeWhen_eq_next _ _ _

theorem handled_of_held {s : State} {n : Nat} (h : s.irqEnabled n = false) (body : State → State) : s.handled n body = s :=
  if_neg (Bool.eq_false_iff.1 h)

/-- IP and HALT written, the two registers every interrupt writes (R310 to R312). -/
def State.setIrq (s : State) (ip : BitVec 3) (halt : Bool) : State := { s with ip := ip, halt := halt }

/-- A handler body neither reads nor writes IP and HALT, and leaves TICK_MASK. -/
structure LeavesIrq (body : State → State) : Prop where
  setIrq (s : State) (ip : BitVec 3) (halt : Bool) : body (s.setIrq ip halt) = (body s).setIrq ip halt
  tickMask (s : State) : (body s).tickMask = s.tickMask

/-- Such a body keeps IP. -/
theorem LeavesIrq.ip {body : State → State} (h : LeavesIrq body) (s : State) : (body s).ip = s.ip := by
  calc (body s).ip = (body (s.setIrq s.ip s.halt)).ip := rfl
    _ = s.ip := by rw [h.setIrq]; rfl

/-- A handler step around such a body, by the registers it writes. -/
theorem LeavesIrq.handled {body : State → State} (h : LeavesIrq body) (n : Nat) (s : State) :
    s.handled n body = if s.irqEnabled n then (body s).setIrq (s.ip &&& ~~~ ipBit n) false else s := by
  rw [State.handled, State.clearPending, h.ip]
  rfl

/-- Clearing one source's pending bit leaves the others' (R48). -/
theorem getLsbD_clear_ipBit {m n : Nat} (hne : m ≠ n) (ip : BitVec 3) : (ip &&& ~~~ ipBit n).getLsbD m = ip.getLsbD m := by
  have hbit : (ipBit n).getLsbD m = false := by
    simp [ipBit]
    omega
  by_cases hm : m < 3
  · rw [BitVec.getLsbD_and, BitVec.getLsbD_not, hbit, decide_eq_true hm]
    exact Bool.and_true _
  · rw [BitVec.getLsbD_of_ge _ m (Nat.not_lt.1 hm), BitVec.getLsbD_of_ge ip m (Nat.not_lt.1 hm)]

/-- A handler leaves the other sources as enabled as they were (R37, R48). -/
theorem LeavesIrq.irqEnabled_handled {body : State → State} (h : LeavesIrq body) {m n : Nat} (hne : m ≠ n) (s : State) :
    (s.handled n body).irqEnabled m = s.irqEnabled m := by
  rw [h.handled]
  split_ifs
  · calc ((body s).setIrq (s.ip &&& ~~~ ipBit n) false).irqEnabled m
        = ((s.ip &&& ~~~ ipBit n).getLsbD m && !(m == srcTick && (body s).tickMask)) := rfl
      _ = s.irqEnabled m := by rw [getLsbD_clear_ipBit hne, h.tickMask]; rfl
  · rfl

/-- Two interrupts taken one after the other run both bodies and clear both pending bits (R310 to R314). -/
theorem LeavesIrq.handled_handled {f g : State → State} (hf : LeavesIrq f) (hg : LeavesIrq g) {m n : Nat} (hne : n ≠ m)
    {s : State} (hm : s.irqEnabled m = true) (hn : s.irqEnabled n = true) :
    (s.handled m f).handled n g = (g (f s)).setIrq (s.ip &&& (~~~ ipBit m &&& ~~~ ipBit n)) false := by
  rw [hg.handled, hf.irqEnabled_handled hne, if_pos hn, hf.handled, if_pos hm, hg.setIrq, ← BitVec.and_assoc]
  rfl

/-- The handlers of two sources commute if their bodies do; one that is held is so before and after the other (R314). -/
theorem LeavesIrq.handled_comm {f g : State → State} (hf : LeavesIrq f) (hg : LeavesIrq g) (hfg : ∀ s, f (g s) = g (f s))
    {m n : Nat} (hne : m ≠ n) (s : State) : (s.handled m f).handled n g = (s.handled n g).handled m f := by
  have hn_after := hf.irqEnabled_handled hne.symm s
  have hm_after := hg.irqEnabled_handled hne s
  cases hm : s.irqEnabled m with
  | false => rw [handled_of_held (hm_after.trans hm) f, handled_of_held hm f]
  | true =>
    cases hn : s.irqEnabled n with
    | false => rw [handled_of_held (hn_after.trans hn) g, handled_of_held hn g]
    | true => rw [hf.handled_handled hg hne.symm hm hn, hg.handled_handled hf hne hn hm, hfg, BitVec.and_comm (~~~ ipBit m)]

/-- The body of IRQ_TICK (R310). -/
def State.addPeriod (s : State) : State := s.setTime (tickFn s.cfg s.time)

/-- The body of IRQ_BTN (R311). -/
def State.askShow (s : State) : State := { s with showReq := true }

/-- The body of IRQ_AUX (R312). -/
def State.askLed (s : State) : State := { s with ledReq := true }

theorem addPeriod_leavesIrq : LeavesIrq State.addPeriod := ⟨fun _ _ _ => rfl, fun _ => rfl⟩

theorem askShow_leavesIrq : LeavesIrq State.askShow := ⟨fun _ _ _ => rfl, fun _ => rfl⟩

theorem askLed_leavesIrq : LeavesIrq State.askLed := ⟨fun _ _ _ => rfl, fun _ => rfl⟩

theorem exec_irqTick (s : State) : exec .irqTick s = .next (s.handled srcTick State.addPeriod) := handlerStep_eq_handled _ _ s

theorem exec_irqBtn (s : State) : exec .irqBtn s = .next (s.handled srcBtn State.askShow) := handlerStep_eq_handled _ _ s

theorem exec_irqAux (s : State) : exec .irqAux s = .next (s.handled srcAux State.askLed) := handlerStep_eq_handled _ _ s

/-- Either order of two operations gives the same next state. -/
def SwapAt (s : State) (i j : Instr) : Prop := ∃ t, execAll [i, j] s = .next t ∧ execAll [j, i] s = .next t

/-- The order is as little observed the other way round. -/
theorem SwapAt.symm {s : State} {i j : Instr} : SwapAt s i j → SwapAt s j i := fun ⟨t, hij, hji⟩ => ⟨t, hji, hij⟩

/-- Two operations that both answer a next state everywhere run one after the other. -/
theorem execAll_pair {i j : Instr} {f g : State → State} (hi : ∀ s, exec i s = .next (f s)) (hj : ∀ s, exec j s = .next (g s))
    (s : State) : execAll [i, j] s = .next (g (f s)) := by
  rw [execAll_cons (hi s), execAll_cons (hj _)]
  rfl

/-- An operation that answers a next state everywhere swaps with itself. -/
theorem SwapAt.refl_of_next {i : Instr} {f : State → State} (hi : ∀ s, exec i s = .next (f s)) (s : State) : SwapAt s i i :=
  ⟨_, execAll_pair hi hi s, execAll_pair hi hi s⟩

/-- Two operations swap where their effects commute. -/
theorem SwapAt.of_comm {i j : Instr} {f g : State → State} (hi : ∀ s, exec i s = .next (f s)) (hj : ∀ s, exec j s = .next (g s))
    {s : State} (hfg : g (f s) = f (g s)) : SwapAt s i j :=
  ⟨_, execAll_pair hi hj s, (execAll_pair hj hi s).trans (congrArg _ hfg.symm)⟩

/-- IRQ_TICK and IRQ_BTN swap: one writes TimeOfDay, the other SHOW_REQ. -/
theorem swapAt_irqTick_irqBtn (s : State) : SwapAt s .irqTick .irqBtn :=
  .of_comm exec_irqTick exec_irqBtn (addPeriod_leavesIrq.handled_comm askShow_leavesIrq (fun _ => rfl) (by decide) s)

/-- IRQ_TICK and IRQ_AUX swap: one writes TimeOfDay, the other LED_REQ. -/
theorem swapAt_irqTick_irqAux (s : State) : SwapAt s .irqTick .irqAux :=
  .of_comm exec_irqTick exec_irqAux (addPeriod_leavesIrq.handled_comm askLed_leavesIrq (fun _ => rfl) (by decide) s)

/-- IRQ_BTN and IRQ_AUX swap: one writes SHOW_REQ, the other LED_REQ. -/
theorem swapAt_irqBtn_irqAux (s : State) : SwapAt s .irqBtn .irqAux :=
  .of_comm exec_irqBtn exec_irqAux (askShow_leavesIrq.handled_comm askLed_leavesIrq (fun _ => rfl) (by decide) s)

/-- Settles O44: each handler swaps with itself, and the three pairs of different handlers swap. -/
theorem handlersCommute : Obligations.HandlersCommute := by
  intro s i hi j hj
  have hself : ∀ k ∈ ([.irqTick, .irqBtn, .irqAux] : List Instr), SwapAt s k k := by
    simpa using ⟨SwapAt.refl_of_next exec_irqTick s, SwapAt.refl_of_next exec_irqBtn s, SwapAt.refl_of_next exec_irqAux s⟩
  have hpairs : ([.irqTick, .irqBtn, .irqAux] : List Instr).Pairwise (SwapAt s) := by
    simpa using ⟨⟨swapAt_irqTick_irqBtn s, swapAt_irqTick_irqAux s⟩, swapAt_irqBtn_irqAux s⟩
  exact hpairs.forall_of_forall_of_flip hself (hpairs.imp SwapAt.symm) hi hj

end Sys2Proof.Machine
end

section
/-! SUPPORT. Boot and RESET (R350 to R356): the two branching boot steps where MAIN stands at them, and RESET over the straps. -/
namespace Sys2Proof.Machine

/-- BOOT_HEAD at its phase (R355). -/
theorem exec_bootHead {s : State} (h : MainAt 0x38 s) :
    exec .bootHead s = .next
      (if s.bi.toNat < s.cfg.bootScript.length then s.markStart.goto phBootFrame else s.goto phSlpEval) :=
  mainStep_at h rfl _

/-- Settles O39: the branches of BOOT_HEAD, by whether the script has a frame BI. -/
theorem bootHeadStartsAFrame : Obligations.BootHeadStartsAFrame := by
  intro s hs
  refine ⟨fun hlt => ?_, fun hle => ?_⟩
  · rw [exec_bootHead hs, if_pos hlt]
    rfl
  · rw [exec_bootHead hs, if_neg (Nat.not_lt.2 hle)]
    rfl

/-- The boot frame is still to be shown below CFG.MSG_MS (R356). -/
theorem frameOpen_iff (s : State) :
    s.frameOpen = true ↔ (s.ms.toNat + 2 ^ 32 - s.t0.toNat) % 2 ^ 32 < s.cfg.msgMs.toNat := by
  rw [State.frameOpen, decide_eq_true_iff, elapsedMs_eq]

/-- Inside the script the frame read is the script's own (R356). -/
theorem bootFrame_of_getElem? {c : Cfg} {bi : BitVec 8} {x : BitVec 32} (h : c.bootScript[bi.toNat]? = some x) :
    bootFrame c bi = x := by
  rw [bootFrame, List.getD_eq_getElem?_getD, h, Option.getD_some]

/-- BOOT_FRAME at its phase (R356). -/
theorem exec_bootFrame {s : State} (h : MainAt 0x39 s) :
    exec .bootFrame s = .next
      (if s.frameOpen then { s with txt := bootFrame s.cfg s.bi, ret := phBootDark }.goto phRgLoad
       else { s with bi := s.bi + 1 }.goto phBootHead) :=
  mainStep_at h rfl _

/-- BOOT_FRAME while its frame is still to be shown: one more sweep of the text it reads (R356). -/
theorem exec_bootFrame_open {s : State} (h : MainAt 0x39 s) (ho : s.frameOpen = true) :
    exec .bootFrame s = .next { s with txt := bootFrame s.cfg s.bi, ret := 0x3A, phase := 0x31 } := by
  rw [exec_bootFrame h, if_pos ho]
  rfl

/-- BOOT_FRAME once its frame has been shown: the next frame (R356). -/
theorem exec_bootFrame_over {s : State} (h : MainAt 0x39 s) (ho : ¬ s.frameOpen = true) :
    exec .bootFrame s = .next { s with bi := s.bi + 1, phase := 0x38 } := by
  rw [exec_bootFrame h, if_neg ho]
  rfl

/-- Settles O40: the branches of BOOT_FRAME, by the milliseconds passed; below 255 the next index fits BI. -/
theorem bootFrameShowsTheText : Obligations.BootFrameShowsTheText := by
  intro s hs passed
  refine ⟨fun hlt => ?_, fun hle hbi => ?_⟩
  · have hsweep := exec_bootFrame_open hs ((frameOpen_iff s).2 hlt)
    exact ⟨fun x hx => bootFrame_of_getElem? hx ▸ hsweep, _, hsweep⟩
  · exact ⟨s.bi + 1, by bv_omega, exec_bootFrame_over hs fun ho => Nat.not_lt.2 hle ((frameOpen_iff s).1 ho)⟩

/-- RESET with legal straps takes the machine to the reset state over them (R350). -/
theorem exec_reset_of_wf {s : State} (h : s.straps.wf = true) : exec .reset s = .next s.resetNow := if_pos h

/-- Settles O41: legal straps give the reset table field by field, ill-formed ones the refusal. -/
theorem resetLoadsTheResetTable : Obligations.ResetLoadsTheResetTable := fun s =>
  ⟨exec_reset_of_wf, fun hbad => (execReset_refused_iff s _).2 ⟨rfl, hbad⟩⟩

end Sys2Proof.Machine
end
